-- ==== Sys2Proof/Word.lean ====
section
/-! DEFINITION. The two word types of the block (00_scope.md R5, R7): the 8-bit data word and the 16-bit address word. -/

namespace Sys2Proof

/-- The 8-bit data word: a register, a memory byte, a port number (00_scope.md R5). -/
abbrev Byte := BitVec 8

/-- The 16-bit word: an address, a register pair, SP or PC (00_scope.md R5). -/
abbrev Word := BitVec 16

end Sys2Proof
end

