-- ==== Sys2Proof/Machine/Bits.lean ====
section
/-! DEFINITION. Packing two bytes into a word and back (00_scope.md R7). -/

namespace Sys2Proof

/-- `cat16(h, l)` of R7: `h` is the high byte. -/
def cat16 (h l : Byte) : Word := h ++ l

/-- `lo8(v)` of R7: bits 7..0. -/
def lo8 (v : Word) : Byte := v.extractLsb' 0 8

/-- `hi8(v)` of R7: bits 15..8. -/
def hi8 (v : Word) : Byte := v.extractLsb' 8 8

end Sys2Proof
end

