-- ==== Sys2Proof/Config.lean ====
section
/-! DEFINITION. The parameters of 00_scope.md R6 that are no state: the open port value, and the timing and driver values. -/

namespace Sys2Proof.Config

/-- PORT0_VALUE (R6, 60_exceptions.md R811, 92_eei_decisions.md D15): OPEN, an 8-bit value fixed for a run. It has no body:
a claim that holds of this model holds for every value of it (log 2). -/
opaque port0Value : BitVec 8

/-- The parameters of the driver (R6, log 5): an argument of `stepCycles` and `runFrame`, never part of State. -/
structure Params where
  /-- CYCLES (70_reset_and_hazards.md R908), indexed by the opcode byte. -/
  cycles : BitVec 8 → Nat
  /-- HALT_IDLE_CYCLES (30_encoding.md R111). -/
  haltIdleCycles : Nat
  /-- FRAME_BUDGET (60_exceptions.md R818). -/
  frameBudget : Nat

/-- The rows of the default cycle table, high nibble by high nibble (R909). An illegal opcode has no count there: its 0 here
is never read, since its step returns no count (R801). -/
def defaultCycleTable : List Nat :=
  [4, 10, 7, 5, 5, 5, 7, 4, 0, 10, 7, 5, 5, 5, 7, 4]
    ++ [0, 10, 7, 5, 5, 5, 7, 4, 0, 10, 7, 5, 5, 5, 7, 4]
    ++ [0, 10, 16, 5, 5, 5, 7, 4, 0, 10, 16, 5, 5, 5, 7, 4]
    ++ [0, 10, 13, 5, 10, 10, 10, 4, 0, 10, 13, 5, 5, 5, 7, 4]
    ++ [5, 5, 5, 5, 5, 5, 7, 5, 5, 5, 5, 5, 5, 5, 7, 5]
    ++ [5, 5, 5, 5, 5, 5, 7, 5, 5, 5, 5, 5, 5, 5, 7, 5]
    ++ [5, 5, 5, 5, 5, 5, 7, 5, 5, 5, 5, 5, 5, 5, 7, 5]
    ++ [7, 7, 7, 7, 7, 7, 7, 7, 5, 5, 5, 5, 5, 5, 7, 5]
    ++ [4, 4, 4, 4, 4, 4, 7, 4, 4, 4, 4, 4, 4, 4, 7, 4]
    ++ [4, 4, 4, 4, 4, 4, 7, 4, 4, 4, 4, 4, 4, 4, 7, 4]
    ++ [4, 4, 4, 4, 4, 4, 7, 4, 4, 4, 4, 4, 4, 4, 7, 4]
    ++ [4, 4, 4, 4, 4, 4, 7, 4, 4, 4, 4, 4, 4, 4, 7, 4]
    ++ [11, 10, 10, 10, 17, 11, 7, 11, 11, 10, 10, 0, 17, 17, 7, 11]
    ++ [11, 10, 10, 10, 17, 11, 7, 11, 11, 0, 10, 10, 17, 0, 7, 11]
    ++ [11, 10, 10, 18, 17, 11, 7, 11, 11, 5, 10, 4, 17, 0, 7, 11]
    ++ [11, 10, 10, 4, 17, 11, 7, 11, 11, 5, 10, 4, 17, 0, 7, 11]

/-- The default CYCLES (R909). -/
def defaultCycles (op : BitVec 8) : Nat := defaultCycleTable.getD op.toNat 0

/-- The defaults of R6: the table of R909, HALT_IDLE_CYCLES = 4 (D9), FRAME_BUDGET = 16,666. -/
def defaultParams : Params := { cycles := defaultCycles, haltIdleCycles := 4, frameBudget := 16666 }

end Sys2Proof.Config
end

