-- ==== Sys2Proof/Syntax.lean ====
section
/-! DEFINITION. The instructions: one constructor for each mnemonic of spec/opcode_table.json (30_encoding.md R104),
and the operand kinds their fields name (10_state.md R21 to R24, 30_encoding.md R102). -/

namespace Sys2Proof

/-- The seven 8-bit registers (10_state.md R20). -/
inductive Reg where
  | b | c | d | e | h | l | a
  deriving DecidableEq, Repr

/-- What a 3-bit register code names (10_state.md R21, R22): a register, or the memory byte at H:L. -/
inductive Operand where
  | reg (r : Reg)
  | m
  deriving DecidableEq, Repr

/-- What a 2-bit pair code names (10_state.md R23). -/
inductive Pair where
  | bc | de | hl | sp
  deriving DecidableEq, Repr

/-- What a 2-bit pair code names in PUSH and POP (10_state.md R24). -/
inductive StackPair where
  | bc | de | hl | psw
  deriving DecidableEq, Repr

/-- The pairs LDAX and STAX take (30_encoding.md R102). -/
inductive IndexPair where
  | bc | de
  deriving DecidableEq, Repr

/-- The ALU operations of the field `aaa` (30_encoding.md R102). -/
inductive AluOp where
  | add | adc | sub | sbb | ana | xra | ora | cmp
  deriving DecidableEq, Repr

/-- The conditions of the field `ccc` (45_control_flow.md R600). -/
inductive Cond where
  | nz | z | nc | c | po | pe | p | m
  deriving DecidableEq, Repr

/-- The instructions of the opcode map (30_encoding.md R104). -/
inductive Instr where
  -- 30_encoding.md R109: the twelve illegal opcodes (one mnemonic, ILLEGAL), with the opcode byte fetched
  | illegal (op : Byte)
  -- 41_data_movement.md
  | lxiB (d : Word)
  | staxB
  | mviB (d : Byte)
  | ldaxB
  | mviC (d : Byte)
  | lxiD (d : Word)
  | staxD
  | mviD (d : Byte)
  | ldaxD
  | mviE (d : Byte)
  | lxiH (d : Word)
  | shld (a : Word)
  | mviH (d : Byte)
  | lhld (a : Word)
  | mviL (d : Byte)
  | lxiSP (d : Word)
  | sta (a : Word)
  | mviM (d : Byte)
  | lda (a : Word)
  | mviA (d : Byte)
  | movBB
  | movBC
  | movBD
  | movBE
  | movBH
  | movBL
  | movBM
  | movBA
  | movCB
  | movCC
  | movCD
  | movCE
  | movCH
  | movCL
  | movCM
  | movCA
  | movDB
  | movDC
  | movDD
  | movDE
  | movDH
  | movDL
  | movDM
  | movDA
  | movEB
  | movEC
  | movED
  | movEE
  | movEH
  | movEL
  | movEM
  | movEA
  | movHB
  | movHC
  | movHD
  | movHE
  | movHH
  | movHL
  | movHM
  | movHA
  | movLB
  | movLC
  | movLD
  | movLE
  | movLH
  | movLL
  | movLM
  | movLA
  | movMB
  | movMC
  | movMD
  | movME
  | movMH
  | movML
  | movMA
  | movAB
  | movAC
  | movAD
  | movAE
  | movAH
  | movAL
  | movAM
  | movAA
  | popB
  | pushB
  | popD
  | pushD
  | popH
  | xthl
  | pushH
  | xchg
  | popPSW
  | pushPSW
  | sphl
  -- 42_arithmetic.md
  | inxB
  | inrB
  | dcrB
  | dadB
  | dcxB
  | inrC
  | dcrC
  | inxD
  | inrD
  | dcrD
  | dadD
  | dcxD
  | inrE
  | dcrE
  | inxH
  | inrH
  | dcrH
  | daa
  | dadH
  | dcxH
  | inrL
  | dcrL
  | inxSP
  | inrM
  | dcrM
  | dadSP
  | dcxSP
  | inrA
  | dcrA
  | addB
  | addC
  | addD
  | addE
  | addH
  | addL
  | addM
  | addA
  | adcB
  | adcC
  | adcD
  | adcE
  | adcH
  | adcL
  | adcM
  | adcA
  | subB
  | subC
  | subD
  | subE
  | subH
  | subL
  | subM
  | subA
  | sbbB
  | sbbC
  | sbbD
  | sbbE
  | sbbH
  | sbbL
  | sbbM
  | sbbA
  | adi (d : Byte)
  | aci (d : Byte)
  | sui (d : Byte)
  | sbi (d : Byte)
  -- 43_logic.md
  | cma
  | stc
  | cmc
  | anaB
  | anaC
  | anaD
  | anaE
  | anaH
  | anaL
  | anaM
  | anaA
  | xraB
  | xraC
  | xraD
  | xraE
  | xraH
  | xraL
  | xraM
  | xraA
  | oraB
  | oraC
  | oraD
  | oraE
  | oraH
  | oraL
  | oraM
  | oraA
  | cmpB
  | cmpC
  | cmpD
  | cmpE
  | cmpH
  | cmpL
  | cmpM
  | cmpA
  | ani (d : Byte)
  | xri (d : Byte)
  | ori (d : Byte)
  | cpi (d : Byte)
  -- 44_rotate.md
  | rlc
  | rrc
  | ral
  | rar
  -- 45_control_flow.md
  | rnz
  | jnz (a : Word)
  | jmp (a : Word)
  | cnz (a : Word)
  | rst0
  | rz
  | ret
  | jz (a : Word)
  | cz (a : Word)
  | call (a : Word)
  | rst1
  | rnc
  | jnc (a : Word)
  | cnc (a : Word)
  | rst2
  | rc
  | jc (a : Word)
  | cc (a : Word)
  | rst3
  | rpo
  | jpo (a : Word)
  | cpo (a : Word)
  | rst4
  | rpe
  | pchl
  | jpe (a : Word)
  | cpe (a : Word)
  | rst5
  | rp
  | jp (a : Word)
  | cp (a : Word)
  | rst6
  | rm
  | jm (a : Word)
  | cm (a : Word)
  | rst7
  -- 46_io_and_machine_control.md
  | nop
  | hlt
  | out (p : Byte)
  | inp (p : Byte)
  | di
  | ei
  deriving DecidableEq, Repr

end Sys2Proof
end

