-- ==== Sys2Proof/Machine/State.lean ====
section
/-! DEFINITION. The state of the machine, as 10_state.md lists it, its reset (70_reset_and_hazards.md R900), and the reasons a
step can stop. -/

namespace Sys2Proof.Machine

/-- The register file (10_state.md R20): A, B, C, D, E, H, L. -/
structure Regs where
  a : Byte
  b : Byte
  c : Byte
  d : Byte
  e : Byte
  h : Byte
  l : Byte
  deriving DecidableEq, Repr

/-- The five condition flags (10_state.md R27). -/
structure Flags where
  z : Bool
  s : Bool
  p : Bool
  cy : Bool
  ac : Bool
  deriving DecidableEq, Repr

/-- The record of the fatal failure (10_state.md R34): the illegal byte and the address it was fetched from. -/
structure FaultRecord where
  opcode : Byte
  pc : Word
  deriving DecidableEq, Repr

/-- The port-device state (10_state.md R37, R38, R39). -/
structure PortState where
  shift0 : Byte
  shift1 : Byte
  shiftOffset : BitVec 3
  inPort1 : Byte
  deriving DecidableEq, Repr

/-- `next_vector` (10_state.md R41): 1 or 2. -/
inductive FrameVector where
  | one
  | two
  deriving DecidableEq, Repr

/-- The machine driver's two fields (10_state.md R41): host state, read and written by no step. -/
structure DriverState where
  cycleAcc : Nat
  nextVector : FrameVector
  deriving DecidableEq, Repr

/-- The whole state (10_state.md, section 7). -/
structure State where
  /-- A, B, C, D, E, H, L (R20). -/
  regs : Regs
  /-- SP (R25). -/
  sp : Word
  /-- PC (R26): between steps, the address of the next opcode. -/
  pc : Word
  /-- Z, S, P, CY, AC (R27). -/
  flags : Flags
  /-- IE, the interrupt-enable latch (R32). -/
  ie : Bool
  /-- HALTED (R33). -/
  halted : Bool
  /-- FAULT (R34). -/
  fault : Option FaultRecord
  /-- The shift register and the input latch (R37 to R39). -/
  ports : PortState
  /-- The memory (R40). -/
  mem : Memory
  /-- The driver's fields (R41). -/
  driver : DriverState
  deriving DecidableEq, Repr

/-- The faults, both from 60_exceptions.md. Neither is a next state: R802, "a model reports it as a fault, never as a final
state" (log 3). -/
inductive Fault where
  /-- R801: the step fetched an illegal opcode. Raised by the meaning of ILLEGAL. Safe: the spec stops the block there. -/
  | unimplementedInstruction (opcode : Byte) (pc : Word)
  /-- R802: a step of a block that has already faulted. Raised by `step`. Safe: the spec gives that block no step. -/
  | stopped (opcode : Byte) (pc : Word)
  deriving DecidableEq, Repr

/-- The refusals. -/
inductive Refusal where
  /-- An instruction that has no meaning in the model yet. Raised by an arm of `exec` only; no arm raises it now. Safe. -/
  | notModelled (mnemonic : String)
  /-- 60_exceptions.md R807: `raise` with a vector outside 0..7, a host error. Raised by `raise`. Safe: the spec refuses it. -/
  | vectorOutOfRange (vector : Nat)
  /-- The ROM loader was given an image that ends beyond the 65,536 bytes. Raised by `State.loadImage`. Safe (log 8). -/
  | imageOutOfRange (base size : Nat)
  deriving DecidableEq, Repr

/-- What a meaning answers. -/
abbrev Result := Host.Outcome State Fault Refusal

/-- The machine at startup (70_reset_and_hazards.md R900): "all fields zero except memory". The parameters FIRST_VECTOR and
INIT_MEM (00_scope.md R6) are its arguments (log 6, log 1); HALTED, FAULT and `cycle_acc` are as D28 sets them. -/
def State.launch (firstVector : FrameVector) (initMem : Memory) : State where
  regs := { a := 0, b := 0, c := 0, d := 0, e := 0, h := 0, l := 0 }
  sp := 0
  pc := 0
  flags := { z := false, s := false, p := false, cy := false, ac := false }
  ie := false
  halted := false
  fault := none
  ports := { shift0 := 0, shift1 := 0, shiftOffset := 0, inPort1 := 0 }
  mem := initMem
  driver := { cycleAcc := 0, nextVector := firstVector }

/-- The machine right after reset: the launch with the default FIRST_VECTOR, 1 (D19, log 6), and a memory that lists nothing (log 1,
log 7). -/
def State.reset : State := State.launch .one []

end Sys2Proof.Machine
end

