-- ==== Sys2Proof/Machine/Ops.lean ====
section
/-! DEFINITION. The named operations over memory, the stack, the program counter and the exceptions. -/

namespace Sys2Proof.Machine

/-! ### Memory (20_memory.md) -/

/-- `MemRead(a, 1)` (R51). -/
def State.read (s : State) (a : Word) : Byte := s.mem.read a.toNat

/-- `MemWrite(a, 1, v)` (R51). -/
def State.write (s : State) (a : Word) (v : Byte) : State := { s with mem := s.mem.write a.toNat v }

/-- `MemRead(a, 2)` (R52): low byte at `a`, high byte at `u16(a + 1)`. -/
def State.readWord (s : State) (a : Word) : Word := cat16 (s.read (a + 1)) (s.read a)

/-- `MemWrite(a, 2, v)` (R52): first the low byte at `a`, then the high byte at `u16(a + 1)`. -/
def State.writeWord (s : State) (a : Word) (v : Word) : State := (s.write a (lo8 v)).write (a + 1) (hi8 v)

/-! ### Stack (20_memory.md R57) -/

/-- `Push16(v)`: high byte at SP - 1, low byte at SP - 2, SP down by 2. -/
def State.push (s : State) (v : Word) : State :=
  { (s.write (s.sp - 1) (hi8 v)).write (s.sp - 2) (lo8 v) with sp := s.sp - 2 }

/-- The value of `Pop16()`. -/
def State.top (s : State) : Word := s.readWord s.sp

/-- The effect of `Pop16()` on SP. -/
def State.dropTop (s : State) : State := { s with sp := s.sp + 2 }

/-! ### Program counter (30_encoding.md R112) -/

/-- `PC <- u16(PC + len)`. -/
def State.advance (s : State) (len : Word) : State := { s with pc := s.pc + len }

/-- `PC <- target`. -/
def State.jump (s : State) (target : Word) : State := { s with pc := target }

/-- The entry address of vector or restart number `n` (60_exceptions.md R807, 45_control_flow.md R607): `8 * n`. -/
def vectorAddress (n : Nat) : Word := BitVec.ofNat 16 (8 * n)

/-! ### Exceptions (60_exceptions.md) -/

/-- R801: `raise Fault(UnimplementedInstruction, op, PC)`: the step ends in the fault and changes nothing. -/
def raiseUnimplemented (op : Byte) (s : State) : Result := .fault (.unimplementedInstruction op s.pc)

/-- R801: the state a fault leaves, FAULT recorded and everything else as it was; a block stopped before keeps its record. -/
def State.afterFault (s : State) (r : Fault) : State :=
  match r with
  | .unimplementedInstruction op pc => { s with fault := some ⟨op, pc⟩ }
  | .stopped _ _ => s

/-- R806: interrupt entry at an instruction boundary. -/
def State.interruptEntry (s : State) (vector : Nat) : State :=
  { (s.push s.pc).jump (vectorAddress vector) with ie := false, halted := false }

/-- R605 and R808: the return, from a call or an interrupt: PC from the stack and nothing else. -/
def State.returnFromStack (s : State) : State := s.dropTop.jump s.top

/-- R111: the step of a halted block: no state changes. -/
def State.idle (s : State) : State := s

end Sys2Proof.Machine
end

