-- ==== Sys2Proof/Machine/Flags.lean ====
section
/-! DEFINITION. The flag computations: parity and the flag byte (10_state.md), the arithmetic and logic functions
(42_arithmetic.md R300 to R303, R322, R323; 43_logic.md R400, R401), the rotates (44_rotate.md), the conditions
(45_control_flow.md R600). -/

namespace Sys2Proof.Machine

/-- The number of 1 bits of a byte. -/
def popCount (v : Byte) : Nat :=
  (v.getLsbD 0).toNat + (v.getLsbD 1).toNat + (v.getLsbD 2).toNat + (v.getLsbD 3).toNat
    + (v.getLsbD 4).toNat + (v.getLsbD 5).toNat + (v.getLsbD 6).toNat + (v.getLsbD 7).toNat

/-- `Parity(v)` (R28): an even number of 1 bits. -/
def parity (v : Byte) : Bool := popCount v % 2 == 0

/-- `ZSP(v)` (R29). -/
def Flags.zsp (f : Flags) (v : Byte) : Flags := { f with z := v == 0, s := v.getLsbD 7, p := parity v }

/-- `FlagByte()` (R30): S, Z, 0, AC, 0, P, 1, CY from bit 7 down. -/
def Flags.toByte (f : Flags) : Byte :=
  BitVec.ofBool f.s ++ BitVec.ofBool f.z ++ 0#1 ++ BitVec.ofBool f.ac ++ 0#1 ++ BitVec.ofBool f.p ++ 1#1 ++ BitVec.ofBool f.cy

/-- `SetFlagByte(v)` (R31): bits 1, 3 and 5 are ignored. -/
def Flags.ofByte (v : Byte) : Flags :=
  { s := v.getLsbD 7, z := v.getLsbD 6, ac := v.getLsbD 4, p := v.getLsbD 2, cy := v.getLsbD 0 }

/-- The low nibble, `v & 0x0F`. -/
def lowNibble (v : Byte) : Nat := (v &&& 0x0F).toNat

/-- `Add8(a, v, cin)` (R300): the result and the flags, all five. -/
def add8 (a v : Byte) (cin : Bool) : Byte × Flags :=
  let t := a.toNat + v.toNat + cin.toNat
  let r := BitVec.ofNat 8 t
  (r, { z := r == 0, s := r.getLsbD 7, p := parity r, cy := decide (t > 0xFF),
        ac := decide (lowNibble a + lowNibble v + cin.toNat > 0x0F) })

/-- `Sub8(a, v, bin)` (R301): the difference held in 16 bits, and the flags, all five. -/
def sub8 (a v : Byte) (bin : Bool) : Byte × Flags :=
  let t : Word := a.setWidth 16 - v.setWidth 16 - BitVec.ofNat 16 bin.toNat
  let r := lo8 t
  (r, { z := r == 0, s := r.getLsbD 7, p := parity r, cy := decide (t.toNat > 0xFF),
        ac := decide (lowNibble a < lowNibble v + bin.toNat) })

/-- `Inc8(v)` (R302): CY is kept. -/
def inc8 (v : Byte) (f : Flags) : Byte × Flags :=
  let r := v + 1
  (r, { f.zsp r with ac := lowNibble v == 0x0F })

/-- `Dec8(v)` (R303): CY is kept. -/
def dec8 (v : Byte) (f : Flags) : Byte × Flags :=
  let r := v - 1
  (r, { f.zsp r with ac := lowNibble v == 0x00 })

/-- `And8(a, v)` (R400): AC is bit 4 of the result (92_eei_decisions.md D5). -/
def and8 (a v : Byte) : Byte × Flags :=
  let r := a &&& v
  (r, { z := r == 0, s := r.getLsbD 7, p := parity r, cy := false, ac := r.getLsbD 4 })

/-- `Or8(a, v)` (R401). -/
def or8 (a v : Byte) : Byte × Flags :=
  let r := a ||| v
  (r, { z := r == 0, s := r.getLsbD 7, p := parity r, cy := false, ac := false })

/-- `Xor8(a, v)` (R401). -/
def xor8 (a v : Byte) : Byte × Flags :=
  let r := a ^^^ v
  (r, { z := r == 0, s := r.getLsbD 7, p := parity r, cy := false, ac := false })

/-- The ALU operation `aaa` on A and an operand: the new A and the new flags. ADC and SBB take CY in (R307, R313); CMP keeps A
(43_logic.md R411). -/
def aluApply (op : AluOp) (a v : Byte) (cy : Bool) : Byte × Flags :=
  match op with
  | .add => add8 a v false
  | .adc => add8 a v cy
  | .sub => sub8 a v false
  | .sbb => sub8 a v cy
  | .ana => and8 a v
  | .xra => xor8 a v
  | .ora => or8 a v
  | .cmp => (a, (sub8 a v false).2)

/-- DAD (R322): the 17-bit sum of two words, as the 16-bit result and the carry. -/
def add16 (x y : Word) : Word × Bool :=
  let t := x.toNat + y.toNat
  (BitVec.ofNat 16 t, decide (t > 0xFFFF))

/-- DAA (R323): two conditional nibble adjustments of A, not truncated between them; AC is kept (92_eei_decisions.md D7). -/
def decimalAdjust (a : Byte) (f : Flags) : Byte × Flags :=
  let t1 := if lowNibble a > 9 ∨ f.ac = true then a.toNat + 0x06 else a.toNat
  let t2 := if t1 / 16 > 9 ∨ f.cy = true then t1 + 0x60 else t1
  let r := BitVec.ofNat 8 t2
  (r, { f.zsp r with cy := f.cy || decide (t2 > 0xFF) })

/-- RLC (R500): the new A and the new CY. -/
def rotateLeft (a : Byte) (_cy : Bool) : Byte × Bool :=
  ((a <<< 1) ||| (BitVec.ofBool (a.getLsbD 7)).setWidth 8, a.getLsbD 7)

/-- RRC (R501). -/
def rotateRight (a : Byte) (_cy : Bool) : Byte × Bool :=
  ((a >>> 1) ||| ((BitVec.ofBool (a.getLsbD 0)).setWidth 8 <<< 7), a.getLsbD 0)

/-- RAL (R502). -/
def rotateLeftCarry (a : Byte) (cy : Bool) : Byte × Bool :=
  ((a <<< 1) ||| (BitVec.ofBool cy).setWidth 8, a.getLsbD 7)

/-- RAR (R503). -/
def rotateRightCarry (a : Byte) (cy : Bool) : Byte × Bool :=
  ((a >>> 1) ||| ((BitVec.ofBool cy).setWidth 8 <<< 7), a.getLsbD 0)

/-- `Cond(ccc)` (R600). -/
def Flags.holds (f : Flags) : Cond → Bool
  | .nz => !f.z
  | .z => f.z
  | .nc => !f.cy
  | .c => f.cy
  | .po => !f.p
  | .pe => f.p
  | .p => !f.s
  | .m => f.s

end Sys2Proof.Machine
end

