-- ==== Sys2Proof/Machine/Operands.lean ====
section
/-! DEFINITION. The operand forms (10_state.md R20 to R24): registers, M, register pairs. -/

namespace Sys2Proof.Machine

/-- `r8[c]` for a register (R21). -/
def Regs.get (g : Regs) : Reg → Byte
  | .b => g.b
  | .c => g.c
  | .d => g.d
  | .e => g.e
  | .h => g.h
  | .l => g.l
  | .a => g.a

/-- `r8[c] <- v` for a register (R21). -/
def Regs.set (g : Regs) (r : Reg) (v : Byte) : Regs :=
  match r with
  | .b => { g with b := v }
  | .c => { g with c := v }
  | .d => { g with d := v }
  | .e => { g with e := v }
  | .h => { g with h := v }
  | .l => { g with l := v }
  | .a => { g with a := v }

/-- The state with one register written. -/
def State.setReg (s : State) (r : Reg) (v : Byte) : State := { s with regs := s.regs.set r v }

/-- `rp[p]` (R23): the first-named register is the high byte. -/
def State.pair (s : State) : Pair → Word
  | .bc => cat16 s.regs.b s.regs.c
  | .de => cat16 s.regs.d s.regs.e
  | .hl => cat16 s.regs.h s.regs.l
  | .sp => s.sp

/-- `rp[p] <- v` (R23). -/
def State.setPair (s : State) (p : Pair) (v : Word) : State :=
  match p with
  | .bc => { s with regs := { s.regs with b := hi8 v, c := lo8 v } }
  | .de => { s with regs := { s.regs with d := hi8 v, e := lo8 v } }
  | .hl => { s with regs := { s.regs with h := hi8 v, l := lo8 v } }
  | .sp => { s with sp := v }

/-- `opnd(c)` (R22): M is the memory byte at H:L. -/
def State.operand (s : State) : Operand → Byte
  | .reg r => s.regs.get r
  | .m => s.read (s.pair .hl)

/-- `opnd(c) <- v` (R22): the address is the H:L of before the write. -/
def State.setOperand (s : State) (o : Operand) (v : Byte) : State :=
  match o with
  | .reg r => s.setReg r v
  | .m => s.write (s.pair .hl) v

end Sys2Proof.Machine
end

