-- ==== Sys2Proof/Machine/Alu.lean ====
section
/-! DEFINITION. The one shared operation of the register, M and immediate ALU forms (42_arithmetic.md, 43_logic.md). -/

namespace Sys2Proof.Machine

/-- R304 to R315, R402 to R413: A and the flags from the ALU operation on A and an operand. -/
def aluOp (op : AluOp) (v : Byte) (len : Word) (s : State) : Result :=
  .next ({ s.setReg .a (aluApply op s.regs.a v s.flags.cy).1 with
    flags := (aluApply op s.regs.a v s.flags.cy).2 }.advance len)

end Sys2Proof.Machine
end

