-- ==== Sys2Proof/Machine/Ports.lean ====
section
/-! DEFINITION. The IO port interface and the devices behind it (60_exceptions.md R811 to R815). -/

namespace Sys2Proof.Machine

/-- `ShiftResult()` (R813). -/
def PortState.shiftResult (p : PortState) : Byte :=
  ((cat16 p.shift1 p.shift0) >>> (8 - p.shiftOffset.toNat)).setWidth 8

/-- `PortRead(p)` (R811): a read changes no state. -/
def PortState.read (d : PortState) (p : Byte) : Byte :=
  if p = 0 then Config.port0Value
  else if p = 1 then d.inPort1
  else if p = 3 then d.shiftResult
  else 0x00

/-- `PortWrite(p, v)` (R812, R814, R815). -/
def PortState.write (d : PortState) (p v : Byte) : PortState :=
  if p = 2 then { d with shiftOffset := v.extractLsb' 0 3 }
  else if p = 4 then { d with shift0 := d.shift1, shift1 := v }
  else d

end Sys2Proof.Machine
end

