-- ==== Sys2Proof/Machine/Arithmetic.lean ====
section
/-! DEFINITION. The meanings of 42_arithmetic.md: 8-bit and 16-bit arithmetic, DAA. -/

namespace Sys2Proof.Machine

/-! ### The shared operations of the family -/

/-- R316, R317: INR. -/
def incrementOp (o : Operand) (s : State) : Result :=
  .next ({ s.setOperand o (inc8 (s.operand o) s.flags).1 with flags := (inc8 (s.operand o) s.flags).2 }.advance 1)

/-- R318, R319: DCR. -/
def decrementOp (o : Operand) (s : State) : Result :=
  .next ({ s.setOperand o (dec8 (s.operand o) s.flags).1 with flags := (dec8 (s.operand o) s.flags).2 }.advance 1)

/-- R320: INX. -/
def incrementPairOp (p : Pair) (s : State) : Result := .next ((s.setPair p (s.pair p + 1)).advance 1)

/-- R321: DCX. -/
def decrementPairOp (p : Pair) (s : State) : Result := .next ((s.setPair p (s.pair p - 1)).advance 1)

/-- R322: DAD. -/
def addPairOp (p : Pair) (s : State) : Result :=
  .next ({ s.setPair .hl (add16 (s.pair .hl) (s.pair p)).1 with
    flags := { s.flags with cy := (add16 (s.pair .hl) (s.pair p)).2 } }.advance 1)

/-- R323: DAA. -/
def decimalAdjustOp (s : State) : Result :=
  .next ({ s.setReg .a (decimalAdjust s.regs.a s.flags).1 with flags := (decimalAdjust s.regs.a s.flags).2 }.advance 1)

/-! ### The instructions -/

/-- R320, `INX B` (0x03). -/
def execInxB (s : State) : Result := incrementPairOp .bc s

/-- R316, `INR B` (0x04). -/
def execInrB (s : State) : Result := incrementOp (.reg .b) s

/-- R318, `DCR B` (0x05). -/
def execDcrB (s : State) : Result := decrementOp (.reg .b) s

/-- R322, `DAD B` (0x09). -/
def execDadB (s : State) : Result := addPairOp .bc s

/-- R321, `DCX B` (0x0B). -/
def execDcxB (s : State) : Result := decrementPairOp .bc s

/-- R316, `INR C` (0x0C). -/
def execInrC (s : State) : Result := incrementOp (.reg .c) s

/-- R318, `DCR C` (0x0D). -/
def execDcrC (s : State) : Result := decrementOp (.reg .c) s

/-- R320, `INX D` (0x13). -/
def execInxD (s : State) : Result := incrementPairOp .de s

/-- R316, `INR D` (0x14). -/
def execInrD (s : State) : Result := incrementOp (.reg .d) s

/-- R318, `DCR D` (0x15). -/
def execDcrD (s : State) : Result := decrementOp (.reg .d) s

/-- R322, `DAD D` (0x19). -/
def execDadD (s : State) : Result := addPairOp .de s

/-- R321, `DCX D` (0x1B). -/
def execDcxD (s : State) : Result := decrementPairOp .de s

/-- R316, `INR E` (0x1C). -/
def execInrE (s : State) : Result := incrementOp (.reg .e) s

/-- R318, `DCR E` (0x1D). -/
def execDcrE (s : State) : Result := decrementOp (.reg .e) s

/-- R320, `INX H` (0x23). -/
def execInxH (s : State) : Result := incrementPairOp .hl s

/-- R316, `INR H` (0x24). -/
def execInrH (s : State) : Result := incrementOp (.reg .h) s

/-- R318, `DCR H` (0x25). -/
def execDcrH (s : State) : Result := decrementOp (.reg .h) s

/-- R323, `DAA` (0x27). -/
def execDaa (s : State) : Result := decimalAdjustOp s

/-- R322, `DAD H` (0x29). -/
def execDadH (s : State) : Result := addPairOp .hl s

/-- R321, `DCX H` (0x2B). -/
def execDcxH (s : State) : Result := decrementPairOp .hl s

/-- R316, `INR L` (0x2C). -/
def execInrL (s : State) : Result := incrementOp (.reg .l) s

/-- R318, `DCR L` (0x2D). -/
def execDcrL (s : State) : Result := decrementOp (.reg .l) s

/-- R320, `INX SP` (0x33). -/
def execInxSP (s : State) : Result := incrementPairOp .sp s

/-- R317, `INR M` (0x34). -/
def execInrM (s : State) : Result := incrementOp .m s

/-- R319, `DCR M` (0x35). -/
def execDcrM (s : State) : Result := decrementOp .m s

/-- R322, `DAD SP` (0x39). -/
def execDadSP (s : State) : Result := addPairOp .sp s

/-- R321, `DCX SP` (0x3B). -/
def execDcxSP (s : State) : Result := decrementPairOp .sp s

/-- R316, `INR A` (0x3C). -/
def execInrA (s : State) : Result := incrementOp (.reg .a) s

/-- R318, `DCR A` (0x3D). -/
def execDcrA (s : State) : Result := decrementOp (.reg .a) s

/-- R304, `ADD B` (0x80). -/
def execAddB (s : State) : Result := aluOp .add (s.operand (.reg .b)) 1 s

/-- R304, `ADD C` (0x81). -/
def execAddC (s : State) : Result := aluOp .add (s.operand (.reg .c)) 1 s

/-- R304, `ADD D` (0x82). -/
def execAddD (s : State) : Result := aluOp .add (s.operand (.reg .d)) 1 s

/-- R304, `ADD E` (0x83). -/
def execAddE (s : State) : Result := aluOp .add (s.operand (.reg .e)) 1 s

/-- R304, `ADD H` (0x84). -/
def execAddH (s : State) : Result := aluOp .add (s.operand (.reg .h)) 1 s

/-- R304, `ADD L` (0x85). -/
def execAddL (s : State) : Result := aluOp .add (s.operand (.reg .l)) 1 s

/-- R305, `ADD M` (0x86). -/
def execAddM (s : State) : Result := aluOp .add (s.operand .m) 1 s

/-- R304, `ADD A` (0x87). -/
def execAddA (s : State) : Result := aluOp .add (s.operand (.reg .a)) 1 s

/-- R307, `ADC B` (0x88). -/
def execAdcB (s : State) : Result := aluOp .adc (s.operand (.reg .b)) 1 s

/-- R307, `ADC C` (0x89). -/
def execAdcC (s : State) : Result := aluOp .adc (s.operand (.reg .c)) 1 s

/-- R307, `ADC D` (0x8A). -/
def execAdcD (s : State) : Result := aluOp .adc (s.operand (.reg .d)) 1 s

/-- R307, `ADC E` (0x8B). -/
def execAdcE (s : State) : Result := aluOp .adc (s.operand (.reg .e)) 1 s

/-- R307, `ADC H` (0x8C). -/
def execAdcH (s : State) : Result := aluOp .adc (s.operand (.reg .h)) 1 s

/-- R307, `ADC L` (0x8D). -/
def execAdcL (s : State) : Result := aluOp .adc (s.operand (.reg .l)) 1 s

/-- R308, `ADC M` (0x8E). -/
def execAdcM (s : State) : Result := aluOp .adc (s.operand .m) 1 s

/-- R307, `ADC A` (0x8F). -/
def execAdcA (s : State) : Result := aluOp .adc (s.operand (.reg .a)) 1 s

/-- R310, `SUB B` (0x90). -/
def execSubB (s : State) : Result := aluOp .sub (s.operand (.reg .b)) 1 s

/-- R310, `SUB C` (0x91). -/
def execSubC (s : State) : Result := aluOp .sub (s.operand (.reg .c)) 1 s

/-- R310, `SUB D` (0x92). -/
def execSubD (s : State) : Result := aluOp .sub (s.operand (.reg .d)) 1 s

/-- R310, `SUB E` (0x93). -/
def execSubE (s : State) : Result := aluOp .sub (s.operand (.reg .e)) 1 s

/-- R310, `SUB H` (0x94). -/
def execSubH (s : State) : Result := aluOp .sub (s.operand (.reg .h)) 1 s

/-- R310, `SUB L` (0x95). -/
def execSubL (s : State) : Result := aluOp .sub (s.operand (.reg .l)) 1 s

/-- R311, `SUB M` (0x96). -/
def execSubM (s : State) : Result := aluOp .sub (s.operand .m) 1 s

/-- R310, `SUB A` (0x97). -/
def execSubA (s : State) : Result := aluOp .sub (s.operand (.reg .a)) 1 s

/-- R313, `SBB B` (0x98). -/
def execSbbB (s : State) : Result := aluOp .sbb (s.operand (.reg .b)) 1 s

/-- R313, `SBB C` (0x99). -/
def execSbbC (s : State) : Result := aluOp .sbb (s.operand (.reg .c)) 1 s

/-- R313, `SBB D` (0x9A). -/
def execSbbD (s : State) : Result := aluOp .sbb (s.operand (.reg .d)) 1 s

/-- R313, `SBB E` (0x9B). -/
def execSbbE (s : State) : Result := aluOp .sbb (s.operand (.reg .e)) 1 s

/-- R313, `SBB H` (0x9C). -/
def execSbbH (s : State) : Result := aluOp .sbb (s.operand (.reg .h)) 1 s

/-- R313, `SBB L` (0x9D). -/
def execSbbL (s : State) : Result := aluOp .sbb (s.operand (.reg .l)) 1 s

/-- R314, `SBB M` (0x9E). -/
def execSbbM (s : State) : Result := aluOp .sbb (s.operand .m) 1 s

/-- R313, `SBB A` (0x9F). -/
def execSbbA (s : State) : Result := aluOp .sbb (s.operand (.reg .a)) 1 s

/-- R306, `ADI d8` (0xC6). -/
def execAdi (d : Byte) (s : State) : Result := aluOp .add d 2 s

/-- R309, `ACI d8` (0xCE). -/
def execAci (d : Byte) (s : State) : Result := aluOp .adc d 2 s

/-- R312, `SUI d8` (0xD6). -/
def execSui (d : Byte) (s : State) : Result := aluOp .sub d 2 s

/-- R315, `SBI d8` (0xDE). -/
def execSbi (d : Byte) (s : State) : Result := aluOp .sbb d 2 s

end Sys2Proof.Machine
end

