-- ==== Sys2Proof/Machine/Control.lean ====
section
/-! DEFINITION. The meanings of 45_control_flow.md: jumps, calls, returns, RST, PCHL. -/

namespace Sys2Proof.Machine

/-! ### The shared operations of the family -/

/-- R601, R608: a jump. -/
def jumpOp (target : Word) (s : State) : Result := .next (s.jump target)

/-- R602: a conditional jump. -/
def jumpIfOp (cond : Cond) (target : Word) (s : State) : Result :=
  if s.flags.holds cond then .next (s.jump target) else .next (s.advance 3)

/-- R603, R607: the return address pushed, then the jump. -/
def callOp (target len : Word) (s : State) : Result := .next ((s.push (s.pc + len)).jump target)

/-- R604: a conditional call. -/
def callIfOp (cond : Cond) (target : Word) (s : State) : Result :=
  if s.flags.holds cond then callOp target 3 s else .next (s.advance 3)

/-- R605: RET. -/
def returnOp (s : State) : Result := .next s.returnFromStack

/-- R606: a conditional return. -/
def returnIfOp (cond : Cond) (s : State) : Result :=
  if s.flags.holds cond then returnOp s else .next (s.advance 1)

/-! ### The instructions -/

/-- R606, `RNZ` (0xC0). -/
def execRnz (s : State) : Result := returnIfOp .nz s

/-- R602, `JNZ a16` (0xC2). -/
def execJnz (a : Word) (s : State) : Result := jumpIfOp .nz a s

/-- R601, `JMP a16` (0xC3). -/
def execJmp (a : Word) (s : State) : Result := jumpOp a s

/-- R604, `CNZ a16` (0xC4). -/
def execCnz (a : Word) (s : State) : Result := callIfOp .nz a s

/-- R607, `RST 0` (0xC7). -/
def execRst0 (s : State) : Result := callOp (vectorAddress 0) 1 s

/-- R606, `RZ` (0xC8). -/
def execRz (s : State) : Result := returnIfOp .z s

/-- R605, `RET` (0xC9). -/
def execRet (s : State) : Result := returnOp s

/-- R602, `JZ a16` (0xCA). -/
def execJz (a : Word) (s : State) : Result := jumpIfOp .z a s

/-- R604, `CZ a16` (0xCC). -/
def execCz (a : Word) (s : State) : Result := callIfOp .z a s

/-- R603, `CALL a16` (0xCD). -/
def execCall (a : Word) (s : State) : Result := callOp a 3 s

/-- R607, `RST 1` (0xCF). -/
def execRst1 (s : State) : Result := callOp (vectorAddress 1) 1 s

/-- R606, `RNC` (0xD0). -/
def execRnc (s : State) : Result := returnIfOp .nc s

/-- R602, `JNC a16` (0xD2). -/
def execJnc (a : Word) (s : State) : Result := jumpIfOp .nc a s

/-- R604, `CNC a16` (0xD4). -/
def execCnc (a : Word) (s : State) : Result := callIfOp .nc a s

/-- R607, `RST 2` (0xD7). -/
def execRst2 (s : State) : Result := callOp (vectorAddress 2) 1 s

/-- R606, `RC` (0xD8). -/
def execRc (s : State) : Result := returnIfOp .c s

/-- R602, `JC a16` (0xDA). -/
def execJc (a : Word) (s : State) : Result := jumpIfOp .c a s

/-- R604, `CC a16` (0xDC). -/
def execCc (a : Word) (s : State) : Result := callIfOp .c a s

/-- R607, `RST 3` (0xDF). -/
def execRst3 (s : State) : Result := callOp (vectorAddress 3) 1 s

/-- R606, `RPO` (0xE0). -/
def execRpo (s : State) : Result := returnIfOp .po s

/-- R602, `JPO a16` (0xE2). -/
def execJpo (a : Word) (s : State) : Result := jumpIfOp .po a s

/-- R604, `CPO a16` (0xE4). -/
def execCpo (a : Word) (s : State) : Result := callIfOp .po a s

/-- R607, `RST 4` (0xE7). -/
def execRst4 (s : State) : Result := callOp (vectorAddress 4) 1 s

/-- R606, `RPE` (0xE8). -/
def execRpe (s : State) : Result := returnIfOp .pe s

/-- R608, `PCHL` (0xE9). -/
def execPchl (s : State) : Result := jumpOp (s.pair .hl) s

/-- R602, `JPE a16` (0xEA). -/
def execJpe (a : Word) (s : State) : Result := jumpIfOp .pe a s

/-- R604, `CPE a16` (0xEC). -/
def execCpe (a : Word) (s : State) : Result := callIfOp .pe a s

/-- R607, `RST 5` (0xEF). -/
def execRst5 (s : State) : Result := callOp (vectorAddress 5) 1 s

/-- R606, `RP` (0xF0). -/
def execRp (s : State) : Result := returnIfOp .p s

/-- R602, `JP a16` (0xF2). -/
def execJp (a : Word) (s : State) : Result := jumpIfOp .p a s

/-- R604, `CP a16` (0xF4). -/
def execCp (a : Word) (s : State) : Result := callIfOp .p a s

/-- R607, `RST 6` (0xF7). -/
def execRst6 (s : State) : Result := callOp (vectorAddress 6) 1 s

/-- R606, `RM` (0xF8). -/
def execRm (s : State) : Result := returnIfOp .m s

/-- R602, `JM a16` (0xFA). -/
def execJm (a : Word) (s : State) : Result := jumpIfOp .m a s

/-- R604, `CM a16` (0xFC). -/
def execCm (a : Word) (s : State) : Result := callIfOp .m a s

/-- R607, `RST 7` (0xFF). -/
def execRst7 (s : State) : Result := callOp (vectorAddress 7) 1 s

end Sys2Proof.Machine
end

