-- ==== Sys2Proof/Machine/DataMovement.lean ====
section
/-! DEFINITION. The meanings of 41_data_movement.md: moves, immediate, direct and indirect loads and stores, XCHG. -/

namespace Sys2Proof.Machine

/-! ### The shared operations of the family -/

/-- R200, R201, R202: MOV. -/
def moveOp (dst src : Operand) (s : State) : Result := .next ((s.setOperand dst (s.operand src)).advance 1)

/-- R203, R204: MVI. -/
def moveImmOp (dst : Operand) (v : Byte) (s : State) : Result := .next ((s.setOperand dst v).advance 2)

/-- R205: LXI. -/
def loadPairImmOp (p : Pair) (v : Word) (s : State) : Result := .next ((s.setPair p v).advance 3)

/-- R206, R210: A from the byte at an address. -/
def loadAccOp (a len : Word) (s : State) : Result := .next ((s.setReg .a (s.read a)).advance len)

/-- R207, R211: A to the byte at an address. -/
def storeAccOp (a len : Word) (s : State) : Result := .next ((s.write a s.regs.a).advance len)

/-- R208: LHLD. -/
def loadHlOp (a : Word) (s : State) : Result := .next ((s.setPair .hl (s.readWord a)).advance 3)

/-- R209: SHLD. -/
def storeHlOp (a : Word) (s : State) : Result := .next ((s.writeWord a (s.pair .hl)).advance 3)

/-- R212: XCHG. -/
def exchangeDeHlOp (s : State) : Result :=
  .next (((s.setPair .de (s.pair .hl)).setPair .hl (s.pair .de)).advance 1)

/-! ### The instructions -/

/-- R205, `LXI B,d16` (0x01). -/
def execLxiB (d : Word) (s : State) : Result := loadPairImmOp .bc d s

/-- R211, `STAX B` (0x02). -/
def execStaxB (s : State) : Result := storeAccOp (s.pair .bc) 1 s

/-- R203, `MVI B,d8` (0x06). -/
def execMviB (d : Byte) (s : State) : Result := moveImmOp (.reg .b) d s

/-- R210, `LDAX B` (0x0A). -/
def execLdaxB (s : State) : Result := loadAccOp (s.pair .bc) 1 s

/-- R203, `MVI C,d8` (0x0E). -/
def execMviC (d : Byte) (s : State) : Result := moveImmOp (.reg .c) d s

/-- R205, `LXI D,d16` (0x11). -/
def execLxiD (d : Word) (s : State) : Result := loadPairImmOp .de d s

/-- R211, `STAX D` (0x12). -/
def execStaxD (s : State) : Result := storeAccOp (s.pair .de) 1 s

/-- R203, `MVI D,d8` (0x16). -/
def execMviD (d : Byte) (s : State) : Result := moveImmOp (.reg .d) d s

/-- R210, `LDAX D` (0x1A). -/
def execLdaxD (s : State) : Result := loadAccOp (s.pair .de) 1 s

/-- R203, `MVI E,d8` (0x1E). -/
def execMviE (d : Byte) (s : State) : Result := moveImmOp (.reg .e) d s

/-- R205, `LXI H,d16` (0x21). -/
def execLxiH (d : Word) (s : State) : Result := loadPairImmOp .hl d s

/-- R209, `SHLD a16` (0x22). -/
def execShld (a : Word) (s : State) : Result := storeHlOp a s

/-- R203, `MVI H,d8` (0x26). -/
def execMviH (d : Byte) (s : State) : Result := moveImmOp (.reg .h) d s

/-- R208, `LHLD a16` (0x2A). -/
def execLhld (a : Word) (s : State) : Result := loadHlOp a s

/-- R203, `MVI L,d8` (0x2E). -/
def execMviL (d : Byte) (s : State) : Result := moveImmOp (.reg .l) d s

/-- R205, `LXI SP,d16` (0x31). -/
def execLxiSP (d : Word) (s : State) : Result := loadPairImmOp .sp d s

/-- R207, `STA a16` (0x32). -/
def execSta (a : Word) (s : State) : Result := storeAccOp a 3 s

/-- R204, `MVI M,d8` (0x36). -/
def execMviM (d : Byte) (s : State) : Result := moveImmOp .m d s

/-- R206, `LDA a16` (0x3A). -/
def execLda (a : Word) (s : State) : Result := loadAccOp a 3 s

/-- R203, `MVI A,d8` (0x3E). -/
def execMviA (d : Byte) (s : State) : Result := moveImmOp (.reg .a) d s

/-- R200, `MOV B,B` (0x40). -/
def execMovBB (s : State) : Result := moveOp (.reg .b) (.reg .b) s

/-- R200, `MOV B,C` (0x41). -/
def execMovBC (s : State) : Result := moveOp (.reg .b) (.reg .c) s

/-- R200, `MOV B,D` (0x42). -/
def execMovBD (s : State) : Result := moveOp (.reg .b) (.reg .d) s

/-- R200, `MOV B,E` (0x43). -/
def execMovBE (s : State) : Result := moveOp (.reg .b) (.reg .e) s

/-- R200, `MOV B,H` (0x44). -/
def execMovBH (s : State) : Result := moveOp (.reg .b) (.reg .h) s

/-- R200, `MOV B,L` (0x45). -/
def execMovBL (s : State) : Result := moveOp (.reg .b) (.reg .l) s

/-- R201, `MOV B,M` (0x46). -/
def execMovBM (s : State) : Result := moveOp (.reg .b) .m s

/-- R200, `MOV B,A` (0x47). -/
def execMovBA (s : State) : Result := moveOp (.reg .b) (.reg .a) s

/-- R200, `MOV C,B` (0x48). -/
def execMovCB (s : State) : Result := moveOp (.reg .c) (.reg .b) s

/-- R200, `MOV C,C` (0x49). -/
def execMovCC (s : State) : Result := moveOp (.reg .c) (.reg .c) s

/-- R200, `MOV C,D` (0x4A). -/
def execMovCD (s : State) : Result := moveOp (.reg .c) (.reg .d) s

/-- R200, `MOV C,E` (0x4B). -/
def execMovCE (s : State) : Result := moveOp (.reg .c) (.reg .e) s

/-- R200, `MOV C,H` (0x4C). -/
def execMovCH (s : State) : Result := moveOp (.reg .c) (.reg .h) s

/-- R200, `MOV C,L` (0x4D). -/
def execMovCL (s : State) : Result := moveOp (.reg .c) (.reg .l) s

/-- R201, `MOV C,M` (0x4E). -/
def execMovCM (s : State) : Result := moveOp (.reg .c) .m s

/-- R200, `MOV C,A` (0x4F). -/
def execMovCA (s : State) : Result := moveOp (.reg .c) (.reg .a) s

/-- R200, `MOV D,B` (0x50). -/
def execMovDB (s : State) : Result := moveOp (.reg .d) (.reg .b) s

/-- R200, `MOV D,C` (0x51). -/
def execMovDC (s : State) : Result := moveOp (.reg .d) (.reg .c) s

/-- R200, `MOV D,D` (0x52). -/
def execMovDD (s : State) : Result := moveOp (.reg .d) (.reg .d) s

/-- R200, `MOV D,E` (0x53). -/
def execMovDE (s : State) : Result := moveOp (.reg .d) (.reg .e) s

/-- R200, `MOV D,H` (0x54). -/
def execMovDH (s : State) : Result := moveOp (.reg .d) (.reg .h) s

/-- R200, `MOV D,L` (0x55). -/
def execMovDL (s : State) : Result := moveOp (.reg .d) (.reg .l) s

/-- R201, `MOV D,M` (0x56). -/
def execMovDM (s : State) : Result := moveOp (.reg .d) .m s

/-- R200, `MOV D,A` (0x57). -/
def execMovDA (s : State) : Result := moveOp (.reg .d) (.reg .a) s

/-- R200, `MOV E,B` (0x58). -/
def execMovEB (s : State) : Result := moveOp (.reg .e) (.reg .b) s

/-- R200, `MOV E,C` (0x59). -/
def execMovEC (s : State) : Result := moveOp (.reg .e) (.reg .c) s

/-- R200, `MOV E,D` (0x5A). -/
def execMovED (s : State) : Result := moveOp (.reg .e) (.reg .d) s

/-- R200, `MOV E,E` (0x5B). -/
def execMovEE (s : State) : Result := moveOp (.reg .e) (.reg .e) s

/-- R200, `MOV E,H` (0x5C). -/
def execMovEH (s : State) : Result := moveOp (.reg .e) (.reg .h) s

/-- R200, `MOV E,L` (0x5D). -/
def execMovEL (s : State) : Result := moveOp (.reg .e) (.reg .l) s

/-- R201, `MOV E,M` (0x5E). -/
def execMovEM (s : State) : Result := moveOp (.reg .e) .m s

/-- R200, `MOV E,A` (0x5F). -/
def execMovEA (s : State) : Result := moveOp (.reg .e) (.reg .a) s

/-- R200, `MOV H,B` (0x60). -/
def execMovHB (s : State) : Result := moveOp (.reg .h) (.reg .b) s

/-- R200, `MOV H,C` (0x61). -/
def execMovHC (s : State) : Result := moveOp (.reg .h) (.reg .c) s

/-- R200, `MOV H,D` (0x62). -/
def execMovHD (s : State) : Result := moveOp (.reg .h) (.reg .d) s

/-- R200, `MOV H,E` (0x63). -/
def execMovHE (s : State) : Result := moveOp (.reg .h) (.reg .e) s

/-- R200, `MOV H,H` (0x64). -/
def execMovHH (s : State) : Result := moveOp (.reg .h) (.reg .h) s

/-- R200, `MOV H,L` (0x65). -/
def execMovHL (s : State) : Result := moveOp (.reg .h) (.reg .l) s

/-- R201, `MOV H,M` (0x66). -/
def execMovHM (s : State) : Result := moveOp (.reg .h) .m s

/-- R200, `MOV H,A` (0x67). -/
def execMovHA (s : State) : Result := moveOp (.reg .h) (.reg .a) s

/-- R200, `MOV L,B` (0x68). -/
def execMovLB (s : State) : Result := moveOp (.reg .l) (.reg .b) s

/-- R200, `MOV L,C` (0x69). -/
def execMovLC (s : State) : Result := moveOp (.reg .l) (.reg .c) s

/-- R200, `MOV L,D` (0x6A). -/
def execMovLD (s : State) : Result := moveOp (.reg .l) (.reg .d) s

/-- R200, `MOV L,E` (0x6B). -/
def execMovLE (s : State) : Result := moveOp (.reg .l) (.reg .e) s

/-- R200, `MOV L,H` (0x6C). -/
def execMovLH (s : State) : Result := moveOp (.reg .l) (.reg .h) s

/-- R200, `MOV L,L` (0x6D). -/
def execMovLL (s : State) : Result := moveOp (.reg .l) (.reg .l) s

/-- R201, `MOV L,M` (0x6E). -/
def execMovLM (s : State) : Result := moveOp (.reg .l) .m s

/-- R200, `MOV L,A` (0x6F). -/
def execMovLA (s : State) : Result := moveOp (.reg .l) (.reg .a) s

/-- R202, `MOV M,B` (0x70). -/
def execMovMB (s : State) : Result := moveOp .m (.reg .b) s

/-- R202, `MOV M,C` (0x71). -/
def execMovMC (s : State) : Result := moveOp .m (.reg .c) s

/-- R202, `MOV M,D` (0x72). -/
def execMovMD (s : State) : Result := moveOp .m (.reg .d) s

/-- R202, `MOV M,E` (0x73). -/
def execMovME (s : State) : Result := moveOp .m (.reg .e) s

/-- R202, `MOV M,H` (0x74). -/
def execMovMH (s : State) : Result := moveOp .m (.reg .h) s

/-- R202, `MOV M,L` (0x75). -/
def execMovML (s : State) : Result := moveOp .m (.reg .l) s

/-- R202, `MOV M,A` (0x77). -/
def execMovMA (s : State) : Result := moveOp .m (.reg .a) s

/-- R200, `MOV A,B` (0x78). -/
def execMovAB (s : State) : Result := moveOp (.reg .a) (.reg .b) s

/-- R200, `MOV A,C` (0x79). -/
def execMovAC (s : State) : Result := moveOp (.reg .a) (.reg .c) s

/-- R200, `MOV A,D` (0x7A). -/
def execMovAD (s : State) : Result := moveOp (.reg .a) (.reg .d) s

/-- R200, `MOV A,E` (0x7B). -/
def execMovAE (s : State) : Result := moveOp (.reg .a) (.reg .e) s

/-- R200, `MOV A,H` (0x7C). -/
def execMovAH (s : State) : Result := moveOp (.reg .a) (.reg .h) s

/-- R200, `MOV A,L` (0x7D). -/
def execMovAL (s : State) : Result := moveOp (.reg .a) (.reg .l) s

/-- R201, `MOV A,M` (0x7E). -/
def execMovAM (s : State) : Result := moveOp (.reg .a) .m s

/-- R200, `MOV A,A` (0x7F). -/
def execMovAA (s : State) : Result := moveOp (.reg .a) (.reg .a) s

/-- R212, `XCHG` (0xEB). -/
def execXchg (s : State) : Result := exchangeDeHlOp s

end Sys2Proof.Machine
end

