-- ==== Sys2Proof/Machine/InputOutput.lean ====
section
/-! DEFINITION. The meanings of 46_io_and_machine_control.md: IN, OUT, EI, DI, NOP, HLT; the illegal opcodes of 60_exceptions.md R801. -/

namespace Sys2Proof.Machine

/-! ### The shared operations of the family -/

/-- R700: IN. -/
def inputOp (p : Byte) (s : State) : Result := .next ((s.setReg .a (s.ports.read p)).advance 2)

/-- R701: OUT. -/
def outputOp (p : Byte) (s : State) : Result := .next ({ s with ports := s.ports.write p s.regs.a }.advance 2)

/-- R702, R703: EI and DI. -/
def setInterruptEnableOp (b : Bool) (s : State) : Result := .next ({ s with ie := b }.advance 1)

/-- R704: NOP. -/
def nopOp (s : State) : Result := .next (s.advance 1)

/-- R705: HLT. -/
def haltOp (s : State) : Result := .next ({ s with halted := true }.advance 1)

/-! ### The instructions -/

/-- R704, `NOP` (0x00). -/
def execNop (s : State) : Result := nopOp s

/-- R705, `HLT` (0x76). -/
def execHlt (s : State) : Result := haltOp s

/-- R701, `OUT p8` (0xD3). -/
def execOut (p : Byte) (s : State) : Result := outputOp p s

/-- R700, `IN p8` (0xDB). -/
def execInp (p : Byte) (s : State) : Result := inputOp p s

/-- R703, `DI` (0xF3). -/
def execDi (s : State) : Result := setInterruptEnableOp false s

/-- R702, `EI` (0xFB). -/
def execEi (s : State) : Result := setInterruptEnableOp true s

/-- R109 and R801: the fetch of an illegal opcode ends the step in the fault, with nothing changed. -/
def execIllegal (op : Byte) (s : State) : Result := raiseUnimplemented op s

end Sys2Proof.Machine
end

