-- ==== Sys2Proof/Machine/Logic.lean ====
section
/-! DEFINITION. The meanings of 43_logic.md: AND, XOR, OR, compare, CMA, CMC, STC. -/

namespace Sys2Proof.Machine

/-! ### The shared operations of the family -/

/-- R414: CMA. -/
def complementAccOp (s : State) : Result := .next ((s.setReg .a (~~~s.regs.a)).advance 1)

/-- R415, R416: CY written and nothing else. -/
def setCarryOp (cy : Bool) (s : State) : Result := .next ({ s with flags := { s.flags with cy := cy } }.advance 1)

/-! ### The instructions -/

/-- R414, `CMA` (0x2F). -/
def execCma (s : State) : Result := complementAccOp s

/-- R416, `STC` (0x37). -/
def execStc (s : State) : Result := setCarryOp true s

/-- R415, `CMC` (0x3F). -/
def execCmc (s : State) : Result := setCarryOp (!s.flags.cy) s

/-- R402, `ANA B` (0xA0). -/
def execAnaB (s : State) : Result := aluOp .ana (s.operand (.reg .b)) 1 s

/-- R402, `ANA C` (0xA1). -/
def execAnaC (s : State) : Result := aluOp .ana (s.operand (.reg .c)) 1 s

/-- R402, `ANA D` (0xA2). -/
def execAnaD (s : State) : Result := aluOp .ana (s.operand (.reg .d)) 1 s

/-- R402, `ANA E` (0xA3). -/
def execAnaE (s : State) : Result := aluOp .ana (s.operand (.reg .e)) 1 s

/-- R402, `ANA H` (0xA4). -/
def execAnaH (s : State) : Result := aluOp .ana (s.operand (.reg .h)) 1 s

/-- R402, `ANA L` (0xA5). -/
def execAnaL (s : State) : Result := aluOp .ana (s.operand (.reg .l)) 1 s

/-- R403, `ANA M` (0xA6). -/
def execAnaM (s : State) : Result := aluOp .ana (s.operand .m) 1 s

/-- R402, `ANA A` (0xA7). -/
def execAnaA (s : State) : Result := aluOp .ana (s.operand (.reg .a)) 1 s

/-- R405, `XRA B` (0xA8). -/
def execXraB (s : State) : Result := aluOp .xra (s.operand (.reg .b)) 1 s

/-- R405, `XRA C` (0xA9). -/
def execXraC (s : State) : Result := aluOp .xra (s.operand (.reg .c)) 1 s

/-- R405, `XRA D` (0xAA). -/
def execXraD (s : State) : Result := aluOp .xra (s.operand (.reg .d)) 1 s

/-- R405, `XRA E` (0xAB). -/
def execXraE (s : State) : Result := aluOp .xra (s.operand (.reg .e)) 1 s

/-- R405, `XRA H` (0xAC). -/
def execXraH (s : State) : Result := aluOp .xra (s.operand (.reg .h)) 1 s

/-- R405, `XRA L` (0xAD). -/
def execXraL (s : State) : Result := aluOp .xra (s.operand (.reg .l)) 1 s

/-- R406, `XRA M` (0xAE). -/
def execXraM (s : State) : Result := aluOp .xra (s.operand .m) 1 s

/-- R405, `XRA A` (0xAF). -/
def execXraA (s : State) : Result := aluOp .xra (s.operand (.reg .a)) 1 s

/-- R408, `ORA B` (0xB0). -/
def execOraB (s : State) : Result := aluOp .ora (s.operand (.reg .b)) 1 s

/-- R408, `ORA C` (0xB1). -/
def execOraC (s : State) : Result := aluOp .ora (s.operand (.reg .c)) 1 s

/-- R408, `ORA D` (0xB2). -/
def execOraD (s : State) : Result := aluOp .ora (s.operand (.reg .d)) 1 s

/-- R408, `ORA E` (0xB3). -/
def execOraE (s : State) : Result := aluOp .ora (s.operand (.reg .e)) 1 s

/-- R408, `ORA H` (0xB4). -/
def execOraH (s : State) : Result := aluOp .ora (s.operand (.reg .h)) 1 s

/-- R408, `ORA L` (0xB5). -/
def execOraL (s : State) : Result := aluOp .ora (s.operand (.reg .l)) 1 s

/-- R409, `ORA M` (0xB6). -/
def execOraM (s : State) : Result := aluOp .ora (s.operand .m) 1 s

/-- R408, `ORA A` (0xB7). -/
def execOraA (s : State) : Result := aluOp .ora (s.operand (.reg .a)) 1 s

/-- R411, `CMP B` (0xB8). -/
def execCmpB (s : State) : Result := aluOp .cmp (s.operand (.reg .b)) 1 s

/-- R411, `CMP C` (0xB9). -/
def execCmpC (s : State) : Result := aluOp .cmp (s.operand (.reg .c)) 1 s

/-- R411, `CMP D` (0xBA). -/
def execCmpD (s : State) : Result := aluOp .cmp (s.operand (.reg .d)) 1 s

/-- R411, `CMP E` (0xBB). -/
def execCmpE (s : State) : Result := aluOp .cmp (s.operand (.reg .e)) 1 s

/-- R411, `CMP H` (0xBC). -/
def execCmpH (s : State) : Result := aluOp .cmp (s.operand (.reg .h)) 1 s

/-- R411, `CMP L` (0xBD). -/
def execCmpL (s : State) : Result := aluOp .cmp (s.operand (.reg .l)) 1 s

/-- R412, `CMP M` (0xBE). -/
def execCmpM (s : State) : Result := aluOp .cmp (s.operand .m) 1 s

/-- R411, `CMP A` (0xBF). -/
def execCmpA (s : State) : Result := aluOp .cmp (s.operand (.reg .a)) 1 s

/-- R404, `ANI d8` (0xE6). -/
def execAni (d : Byte) (s : State) : Result := aluOp .ana d 2 s

/-- R407, `XRI d8` (0xEE). -/
def execXri (d : Byte) (s : State) : Result := aluOp .xra d 2 s

/-- R410, `ORI d8` (0xF6). -/
def execOri (d : Byte) (s : State) : Result := aluOp .ora d 2 s

/-- R413, `CPI d8` (0xFE). -/
def execCpi (d : Byte) (s : State) : Result := aluOp .cmp d 2 s

end Sys2Proof.Machine
end

