-- ==== Sys2Proof/Machine/Rotate.lean ====
section
/-! DEFINITION. The meanings of 44_rotate.md: RLC, RRC, RAL, RAR. -/

namespace Sys2Proof.Machine

/-! ### The shared operation of the family -/

/-- R500 to R503: the new A and the new CY of a rotate; "only CY is affected". -/
def rotateOp (r : Byte × Bool) (s : State) : Result :=
  .next ({ s.setReg .a r.1 with flags := { s.flags with cy := r.2 } }.advance 1)

/-! ### The instructions -/

/-- R500, `RLC` (0x07). -/
def execRlc (s : State) : Result := rotateOp (rotateLeft s.regs.a s.flags.cy) s

/-- R501, `RRC` (0x0F). -/
def execRrc (s : State) : Result := rotateOp (rotateRight s.regs.a s.flags.cy) s

/-- R502, `RAL` (0x17). -/
def execRal (s : State) : Result := rotateOp (rotateLeftCarry s.regs.a s.flags.cy) s

/-- R503, `RAR` (0x1F). -/
def execRar (s : State) : Result := rotateOp (rotateRightCarry s.regs.a s.flags.cy) s

end Sys2Proof.Machine
end

