-- ==== Sys2Proof/Machine/Stack.lean ====
section
/-! DEFINITION. The meanings of 41_data_movement.md R213 to R218: PUSH, POP, XTHL, SPHL. -/

namespace Sys2Proof.Machine

/-! ### The shared operations of the family -/

/-- PSW as a word (10_state.md R24): A high, the flag byte low. -/
def State.psw (s : State) : Word := cat16 s.regs.a s.flags.toByte

/-- R213, R214: PUSH. -/
def pushOp (v : Word) (s : State) : Result := .next ((s.push v).advance 1)

/-- R215: POP of a register pair. -/
def popPairOp (p : Pair) (s : State) : Result := .next ((s.dropTop.setPair p s.top).advance 1)

/-- R216: POP PSW. -/
def popPswOp (s : State) : Result :=
  .next ({ s.dropTop.setReg .a (hi8 s.top) with flags := Flags.ofByte (lo8 s.top) }.advance 1)

/-- R217: XTHL. -/
def exchangeTopHlOp (s : State) : Result :=
  .next (((s.writeWord s.sp (s.pair .hl)).setPair .hl s.top).advance 1)

/-- R218: SPHL. -/
def loadSpOp (s : State) : Result := .next ((s.setPair .sp (s.pair .hl)).advance 1)

/-! ### The instructions -/

/-- R215, `POP B` (0xC1). -/
def execPopB (s : State) : Result := popPairOp .bc s

/-- R213, `PUSH B` (0xC5). -/
def execPushB (s : State) : Result := pushOp (s.pair .bc) s

/-- R215, `POP D` (0xD1). -/
def execPopD (s : State) : Result := popPairOp .de s

/-- R213, `PUSH D` (0xD5). -/
def execPushD (s : State) : Result := pushOp (s.pair .de) s

/-- R215, `POP H` (0xE1). -/
def execPopH (s : State) : Result := popPairOp .hl s

/-- R217, `XTHL` (0xE3). -/
def execXthl (s : State) : Result := exchangeTopHlOp s

/-- R213, `PUSH H` (0xE5). -/
def execPushH (s : State) : Result := pushOp (s.pair .hl) s

/-- R216, `POP PSW` (0xF1). -/
def execPopPSW (s : State) : Result := popPswOp s

/-- R214, `PUSH PSW` (0xF5). -/
def execPushPSW (s : State) : Result := pushOp s.psw s

/-- R218, `SPHL` (0xF9). -/
def execSphl (s : State) : Result := loadSpOp s

end Sys2Proof.Machine
end

