-- ==== Sys2Proof/WellFormed.lean ====
section
/-! DEFINITION. Which terms of Instr stand for an encoding (30_encoding.md R109): every operand of a defined instruction is a
bit vector of its field's width, so the one check is on the opcode that ILLEGAL carries. -/

namespace Sys2Proof

/-- The twelve illegal opcodes (30_encoding.md R109). -/
def illegalOpcodes : List Byte :=
  [0x08, 0x10, 0x18, 0x20, 0x28, 0x30, 0x38, 0xCB, 0xD9, 0xDD, 0xED, 0xFD]

/-- An instruction that some bytes encode: ILLEGAL carries one of the twelve. -/
def Instr.wellFormed (i : Instr) : Bool :=
  match i with
  | .illegal op => illegalOpcodes.contains op
  | _ => true

end Sys2Proof
end

