-- ==== Sys2Proof/Decode.lean ====
section
/-! DEFINITION. The decoder (30_encoding.md R100 to R109: fields of the opcode byte, quadrant by quadrant) and, after it, the
encoder (30_encoding.md R104: the opcode map, byte by byte). -/

namespace Sys2Proof

/-- Why the decoder refuses: the bytes end before the instruction does (`needed` bytes, R100). -/
inductive DecodeError where
  | truncated (needed : Nat)
  deriving DecidableEq, Repr

/-- What the decoder answers: the first instruction and the bytes after it, or why there is none. -/
inductive Decoded where
  | instr (i : Instr) (rest : List Byte)
  | refused (e : DecodeError)
  deriving DecidableEq, Repr

/-! ### Fields (R102) -/

/-- The 3-bit register code (10_state.md R21). -/
def operandOfCode (c : BitVec 3) : Operand :=
  match c.toNat with
  | 0 => .reg .b
  | 1 => .reg .c
  | 2 => .reg .d
  | 3 => .reg .e
  | 4 => .reg .h
  | 5 => .reg .l
  | 6 => .m
  | _ => .reg .a

/-- The 2-bit pair code (10_state.md R23). -/
def pairOfCode (c : BitVec 2) : Pair :=
  match c.toNat with
  | 0 => .bc
  | 1 => .de
  | 2 => .hl
  | _ => .sp

/-- The 2-bit pair code of PUSH and POP (10_state.md R24). -/
def stackPairOfCode (c : BitVec 2) : StackPair :=
  match c.toNat with
  | 0 => .bc
  | 1 => .de
  | 2 => .hl
  | _ => .psw

/-- The field `aaa` (R102). -/
def aluOfCode (c : BitVec 3) : AluOp :=
  match c.toNat with
  | 0 => .add
  | 1 => .adc
  | 2 => .sub
  | 3 => .sbb
  | 4 => .ana
  | 5 => .xra
  | 6 => .ora
  | _ => .cmp

/-- The field `ccc` (45_control_flow.md R600). -/
def condOfCode (c : BitVec 3) : Cond :=
  match c.toNat with
  | 0 => .nz
  | 1 => .z
  | 2 => .nc
  | 3 => .c
  | 4 => .po
  | 5 => .pe
  | 6 => .p
  | _ => .m

/-! ### Families: from the fields to the constructor -/

/-- R200: `MOV d,s` of two registers. -/
def Instr.movRR : Reg → Reg → Instr
  | .b, .b => .movBB
  | .b, .c => .movBC
  | .b, .d => .movBD
  | .b, .e => .movBE
  | .b, .h => .movBH
  | .b, .l => .movBL
  | .b, .a => .movBA
  | .c, .b => .movCB
  | .c, .c => .movCC
  | .c, .d => .movCD
  | .c, .e => .movCE
  | .c, .h => .movCH
  | .c, .l => .movCL
  | .c, .a => .movCA
  | .d, .b => .movDB
  | .d, .c => .movDC
  | .d, .d => .movDD
  | .d, .e => .movDE
  | .d, .h => .movDH
  | .d, .l => .movDL
  | .d, .a => .movDA
  | .e, .b => .movEB
  | .e, .c => .movEC
  | .e, .d => .movED
  | .e, .e => .movEE
  | .e, .h => .movEH
  | .e, .l => .movEL
  | .e, .a => .movEA
  | .h, .b => .movHB
  | .h, .c => .movHC
  | .h, .d => .movHD
  | .h, .e => .movHE
  | .h, .h => .movHH
  | .h, .l => .movHL
  | .h, .a => .movHA
  | .l, .b => .movLB
  | .l, .c => .movLC
  | .l, .d => .movLD
  | .l, .e => .movLE
  | .l, .h => .movLH
  | .l, .l => .movLL
  | .l, .a => .movLA
  | .a, .b => .movAB
  | .a, .c => .movAC
  | .a, .d => .movAD
  | .a, .e => .movAE
  | .a, .h => .movAH
  | .a, .l => .movAL
  | .a, .a => .movAA

/-- R201: `MOV d,M`. -/
def Instr.movRM : Reg → Instr
  | .b => .movBM
  | .c => .movCM
  | .d => .movDM
  | .e => .movEM
  | .h => .movHM
  | .l => .movLM
  | .a => .movAM

/-- R202: `MOV M,s`. -/
def Instr.movMR : Reg → Instr
  | .b => .movMB
  | .c => .movMC
  | .d => .movMD
  | .e => .movME
  | .h => .movMH
  | .l => .movML
  | .a => .movMA

/-- R106: the slot `01dddsss`; the slot of `MOV M,M` is HLT. -/
def Instr.mov : Operand → Operand → Instr
  | .reg dst, .reg src => .movRR dst src
  | .reg dst, .m => .movRM dst
  | .m, .reg src => .movMR src
  | .m, .m => .hlt

/-- R203, R204: `MVI`. -/
def Instr.mvi (d : Byte) : Operand → Instr
  | .reg .b => .mviB d
  | .reg .c => .mviC d
  | .reg .d => .mviD d
  | .reg .e => .mviE d
  | .reg .h => .mviH d
  | .reg .l => .mviL d
  | .m => .mviM d
  | .reg .a => .mviA d

/-- R316, R317: `INR`. -/
def Instr.inr : Operand → Instr
  | .reg .b => .inrB
  | .reg .c => .inrC
  | .reg .d => .inrD
  | .reg .e => .inrE
  | .reg .h => .inrH
  | .reg .l => .inrL
  | .m => .inrM
  | .reg .a => .inrA

/-- R318, R319: `DCR`. -/
def Instr.dcr : Operand → Instr
  | .reg .b => .dcrB
  | .reg .c => .dcrC
  | .reg .d => .dcrD
  | .reg .e => .dcrE
  | .reg .h => .dcrH
  | .reg .l => .dcrL
  | .m => .dcrM
  | .reg .a => .dcrA

/-- R205: `LXI`. -/
def Instr.lxi (d : Word) : Pair → Instr
  | .bc => .lxiB d
  | .de => .lxiD d
  | .hl => .lxiH d
  | .sp => .lxiSP d

/-- R320: `INX`. -/
def Instr.inx : Pair → Instr
  | .bc => .inxB
  | .de => .inxD
  | .hl => .inxH
  | .sp => .inxSP

/-- R321: `DCX`. -/
def Instr.dcx : Pair → Instr
  | .bc => .dcxB
  | .de => .dcxD
  | .hl => .dcxH
  | .sp => .dcxSP

/-- R322: `DAD`. -/
def Instr.dad : Pair → Instr
  | .bc => .dadB
  | .de => .dadD
  | .hl => .dadH
  | .sp => .dadSP

/-- R210: `LDAX`. -/
def Instr.ldax : IndexPair → Instr
  | .bc => .ldaxB
  | .de => .ldaxD

/-- R211: `STAX`. -/
def Instr.stax : IndexPair → Instr
  | .bc => .staxB
  | .de => .staxD

/-- R213, R214: `PUSH`. -/
def Instr.push : StackPair → Instr
  | .bc => .pushB
  | .de => .pushD
  | .hl => .pushH
  | .psw => .pushPSW

/-- R215, R216: `POP`. -/
def Instr.pop : StackPair → Instr
  | .bc => .popB
  | .de => .popD
  | .hl => .popH
  | .psw => .popPSW

/-- R107: the ALU operations on a register or M. -/
def Instr.alu : AluOp → Operand → Instr
  | .add, .reg .b => .addB
  | .add, .reg .c => .addC
  | .add, .reg .d => .addD
  | .add, .reg .e => .addE
  | .add, .reg .h => .addH
  | .add, .reg .l => .addL
  | .add, .m => .addM
  | .add, .reg .a => .addA
  | .adc, .reg .b => .adcB
  | .adc, .reg .c => .adcC
  | .adc, .reg .d => .adcD
  | .adc, .reg .e => .adcE
  | .adc, .reg .h => .adcH
  | .adc, .reg .l => .adcL
  | .adc, .m => .adcM
  | .adc, .reg .a => .adcA
  | .sub, .reg .b => .subB
  | .sub, .reg .c => .subC
  | .sub, .reg .d => .subD
  | .sub, .reg .e => .subE
  | .sub, .reg .h => .subH
  | .sub, .reg .l => .subL
  | .sub, .m => .subM
  | .sub, .reg .a => .subA
  | .sbb, .reg .b => .sbbB
  | .sbb, .reg .c => .sbbC
  | .sbb, .reg .d => .sbbD
  | .sbb, .reg .e => .sbbE
  | .sbb, .reg .h => .sbbH
  | .sbb, .reg .l => .sbbL
  | .sbb, .m => .sbbM
  | .sbb, .reg .a => .sbbA
  | .ana, .reg .b => .anaB
  | .ana, .reg .c => .anaC
  | .ana, .reg .d => .anaD
  | .ana, .reg .e => .anaE
  | .ana, .reg .h => .anaH
  | .ana, .reg .l => .anaL
  | .ana, .m => .anaM
  | .ana, .reg .a => .anaA
  | .xra, .reg .b => .xraB
  | .xra, .reg .c => .xraC
  | .xra, .reg .d => .xraD
  | .xra, .reg .e => .xraE
  | .xra, .reg .h => .xraH
  | .xra, .reg .l => .xraL
  | .xra, .m => .xraM
  | .xra, .reg .a => .xraA
  | .ora, .reg .b => .oraB
  | .ora, .reg .c => .oraC
  | .ora, .reg .d => .oraD
  | .ora, .reg .e => .oraE
  | .ora, .reg .h => .oraH
  | .ora, .reg .l => .oraL
  | .ora, .m => .oraM
  | .ora, .reg .a => .oraA
  | .cmp, .reg .b => .cmpB
  | .cmp, .reg .c => .cmpC
  | .cmp, .reg .d => .cmpD
  | .cmp, .reg .e => .cmpE
  | .cmp, .reg .h => .cmpH
  | .cmp, .reg .l => .cmpL
  | .cmp, .m => .cmpM
  | .cmp, .reg .a => .cmpA

/-- R108: the immediate ALU forms. -/
def Instr.aluImm (d : Byte) : AluOp → Instr
  | .add => .adi d
  | .adc => .aci d
  | .sub => .sui d
  | .sbb => .sbi d
  | .ana => .ani d
  | .xra => .xri d
  | .ora => .ori d
  | .cmp => .cpi d

/-- R602: the conditional jumps. -/
def Instr.jcc (a : Word) : Cond → Instr
  | .nz => .jnz a
  | .z => .jz a
  | .nc => .jnc a
  | .c => .jc a
  | .po => .jpo a
  | .pe => .jpe a
  | .p => .jp a
  | .m => .jm a

/-- R604: the conditional calls. -/
def Instr.ccc (a : Word) : Cond → Instr
  | .nz => .cnz a
  | .z => .cz a
  | .nc => .cnc a
  | .c => .cc a
  | .po => .cpo a
  | .pe => .cpe a
  | .p => .cp a
  | .m => .cm a

/-- R606: the conditional returns. -/
def Instr.rcc : Cond → Instr
  | .nz => .rnz
  | .z => .rz
  | .nc => .rnc
  | .c => .rc
  | .po => .rpo
  | .pe => .rpe
  | .p => .rp
  | .m => .rm

/-- R607: `RST n`. -/
def Instr.rst (n : BitVec 3) : Instr :=
  match n.toNat with
  | 0 => .rst0
  | 1 => .rst1
  | 2 => .rst2
  | 3 => .rst3
  | 4 => .rst4
  | 5 => .rst5
  | 6 => .rst6
  | _ => .rst7

/-! ### The quadrants -/

/-- R105: `00xxxxxx`, by the low three bits. -/
def decodeQuadrant0 (op d8 : Byte) (d16 : Word) : Instr :=
  let mid := op.extractLsb' 3 3
  let pp := op.extractLsb' 4 2
  let odd := op.getLsbD 3
  match (op.extractLsb' 0 3).toNat with
  | 0 => if mid = 0 then .nop else .illegal op
  | 1 => if odd then .dad (pairOfCode pp) else .lxi d16 (pairOfCode pp)
  | 2 =>
    match mid.toNat with
    | 0 => .stax .bc
    | 1 => .ldax .bc
    | 2 => .stax .de
    | 3 => .ldax .de
    | 4 => .shld d16
    | 5 => .lhld d16
    | 6 => .sta d16
    | _ => .lda d16
  | 3 => if odd then .dcx (pairOfCode pp) else .inx (pairOfCode pp)
  | 4 => .inr (operandOfCode mid)
  | 5 => .dcr (operandOfCode mid)
  | 6 => .mvi d8 (operandOfCode mid)
  | _ =>
    match mid.toNat with
    | 0 => .rlc
    | 1 => .rrc
    | 2 => .ral
    | 3 => .rar
    | 4 => .daa
    | 5 => .cma
    | 6 => .stc
    | _ => .cmc

/-- R108: `11xxxxxx`, by the low three bits. -/
def decodeQuadrant3 (op d8 : Byte) (d16 : Word) : Instr :=
  let mid := op.extractLsb' 3 3
  let pp := op.extractLsb' 4 2
  let odd := op.getLsbD 3
  match (op.extractLsb' 0 3).toNat with
  | 0 => .rcc (condOfCode mid)
  | 1 =>
    if odd then
      match pp.toNat with
      | 0 => .ret
      | 1 => .illegal op
      | 2 => .pchl
      | _ => .sphl
    else .pop (stackPairOfCode pp)
  | 2 => .jcc d16 (condOfCode mid)
  | 3 =>
    match mid.toNat with
    | 0 => .jmp d16
    | 1 => .illegal op
    | 2 => .out d8
    | 3 => .inp d8
    | 4 => .xthl
    | 5 => .xchg
    | 6 => .di
    | _ => .ei
  | 4 => .ccc d16 (condOfCode mid)
  | 5 =>
    if odd then
      match pp.toNat with
      | 0 => .call d16
      | _ => .illegal op
    else .push (stackPairOfCode pp)
  | 6 => .aluImm d8 (aluOfCode mid)
  | _ => .rst mid

/-- The instruction that an opcode byte and the two bytes after it hold (R103 to R108). The operand bytes an instruction
does not have are ignored (R109: "The bytes after an opcode are operands and are never decoded as opcodes by that step"). -/
def decodeBytes (op b1 b2 : Byte) : Instr :=
  match (op.extractLsb' 6 2).toNat with
  | 0 => decodeQuadrant0 op b1 (cat16 b2 b1)
  | 1 => .mov (operandOfCode (op.extractLsb' 3 3)) (operandOfCode (op.extractLsb' 0 3))
  | 2 => .alu (aluOfCode (op.extractLsb' 3 3)) (operandOfCode (op.extractLsb' 0 3))
  | _ => decodeQuadrant3 op b1 (cat16 b2 b1)

/-- R100: the length in bytes, a function of the opcode byte alone (an illegal opcode, which has none, is read as its one byte). -/
def opcodeLength (op : Byte) : Nat :=
  if op ∈ ([0x06, 0x0E, 0x16, 0x1E, 0x26, 0x2E, 0x36, 0x3E, 0xC6, 0xCE, 0xD6, 0xDE, 0xE6, 0xEE, 0xF6, 0xFE,
    0xDB, 0xD3] : List Byte) then 2
  else if op ∈ ([0x01, 0x11, 0x21, 0x31, 0x22, 0x2A, 0x32, 0x3A, 0xC3, 0xC2, 0xCA, 0xD2, 0xDA, 0xE2, 0xEA, 0xF2, 0xFA,
    0xCD, 0xC4, 0xCC, 0xD4, 0xDC, 0xE4, 0xEC, 0xF4, 0xFC] : List Byte) then 3
  else 1

/-- The decoder: the first instruction of a list of bytes and the bytes after it, or why there is none. -/
def decode (bytes : List Byte) : Decoded :=
  match bytes with
  | [] => .refused (.truncated 1)
  | op :: rest =>
    if rest.length + 1 < opcodeLength op then .refused (.truncated (opcodeLength op))
    else .instr (decodeBytes op (rest.getD 0 0) (rest.getD 1 0)) (rest.drop (opcodeLength op - 1))

/-! ### The encoder -/

/-- The bytes of an instruction: the opcode of the map (R104), then the operand, low byte first (R101). -/
def encode : Instr → List Byte
  -- 41_data_movement.md
  | .lxiB v => [0x01, lo8 v, hi8 v]
  | .staxB => [0x02]
  | .mviB v => [0x06, v]
  | .ldaxB => [0x0A]
  | .mviC v => [0x0E, v]
  | .lxiD v => [0x11, lo8 v, hi8 v]
  | .staxD => [0x12]
  | .mviD v => [0x16, v]
  | .ldaxD => [0x1A]
  | .mviE v => [0x1E, v]
  | .lxiH v => [0x21, lo8 v, hi8 v]
  | .shld v => [0x22, lo8 v, hi8 v]
  | .mviH v => [0x26, v]
  | .lhld v => [0x2A, lo8 v, hi8 v]
  | .mviL v => [0x2E, v]
  | .lxiSP v => [0x31, lo8 v, hi8 v]
  | .sta v => [0x32, lo8 v, hi8 v]
  | .mviM v => [0x36, v]
  | .lda v => [0x3A, lo8 v, hi8 v]
  | .mviA v => [0x3E, v]
  | .movBB => [0x40]
  | .movBC => [0x41]
  | .movBD => [0x42]
  | .movBE => [0x43]
  | .movBH => [0x44]
  | .movBL => [0x45]
  | .movBM => [0x46]
  | .movBA => [0x47]
  | .movCB => [0x48]
  | .movCC => [0x49]
  | .movCD => [0x4A]
  | .movCE => [0x4B]
  | .movCH => [0x4C]
  | .movCL => [0x4D]
  | .movCM => [0x4E]
  | .movCA => [0x4F]
  | .movDB => [0x50]
  | .movDC => [0x51]
  | .movDD => [0x52]
  | .movDE => [0x53]
  | .movDH => [0x54]
  | .movDL => [0x55]
  | .movDM => [0x56]
  | .movDA => [0x57]
  | .movEB => [0x58]
  | .movEC => [0x59]
  | .movED => [0x5A]
  | .movEE => [0x5B]
  | .movEH => [0x5C]
  | .movEL => [0x5D]
  | .movEM => [0x5E]
  | .movEA => [0x5F]
  | .movHB => [0x60]
  | .movHC => [0x61]
  | .movHD => [0x62]
  | .movHE => [0x63]
  | .movHH => [0x64]
  | .movHL => [0x65]
  | .movHM => [0x66]
  | .movHA => [0x67]
  | .movLB => [0x68]
  | .movLC => [0x69]
  | .movLD => [0x6A]
  | .movLE => [0x6B]
  | .movLH => [0x6C]
  | .movLL => [0x6D]
  | .movLM => [0x6E]
  | .movLA => [0x6F]
  | .movMB => [0x70]
  | .movMC => [0x71]
  | .movMD => [0x72]
  | .movME => [0x73]
  | .movMH => [0x74]
  | .movML => [0x75]
  | .movMA => [0x77]
  | .movAB => [0x78]
  | .movAC => [0x79]
  | .movAD => [0x7A]
  | .movAE => [0x7B]
  | .movAH => [0x7C]
  | .movAL => [0x7D]
  | .movAM => [0x7E]
  | .movAA => [0x7F]
  | .popB => [0xC1]
  | .pushB => [0xC5]
  | .popD => [0xD1]
  | .pushD => [0xD5]
  | .popH => [0xE1]
  | .xthl => [0xE3]
  | .pushH => [0xE5]
  | .xchg => [0xEB]
  | .popPSW => [0xF1]
  | .pushPSW => [0xF5]
  | .sphl => [0xF9]
  -- 42_arithmetic.md
  | .inxB => [0x03]
  | .inrB => [0x04]
  | .dcrB => [0x05]
  | .dadB => [0x09]
  | .dcxB => [0x0B]
  | .inrC => [0x0C]
  | .dcrC => [0x0D]
  | .inxD => [0x13]
  | .inrD => [0x14]
  | .dcrD => [0x15]
  | .dadD => [0x19]
  | .dcxD => [0x1B]
  | .inrE => [0x1C]
  | .dcrE => [0x1D]
  | .inxH => [0x23]
  | .inrH => [0x24]
  | .dcrH => [0x25]
  | .daa => [0x27]
  | .dadH => [0x29]
  | .dcxH => [0x2B]
  | .inrL => [0x2C]
  | .dcrL => [0x2D]
  | .inxSP => [0x33]
  | .inrM => [0x34]
  | .dcrM => [0x35]
  | .dadSP => [0x39]
  | .dcxSP => [0x3B]
  | .inrA => [0x3C]
  | .dcrA => [0x3D]
  | .addB => [0x80]
  | .addC => [0x81]
  | .addD => [0x82]
  | .addE => [0x83]
  | .addH => [0x84]
  | .addL => [0x85]
  | .addM => [0x86]
  | .addA => [0x87]
  | .adcB => [0x88]
  | .adcC => [0x89]
  | .adcD => [0x8A]
  | .adcE => [0x8B]
  | .adcH => [0x8C]
  | .adcL => [0x8D]
  | .adcM => [0x8E]
  | .adcA => [0x8F]
  | .subB => [0x90]
  | .subC => [0x91]
  | .subD => [0x92]
  | .subE => [0x93]
  | .subH => [0x94]
  | .subL => [0x95]
  | .subM => [0x96]
  | .subA => [0x97]
  | .sbbB => [0x98]
  | .sbbC => [0x99]
  | .sbbD => [0x9A]
  | .sbbE => [0x9B]
  | .sbbH => [0x9C]
  | .sbbL => [0x9D]
  | .sbbM => [0x9E]
  | .sbbA => [0x9F]
  | .adi v => [0xC6, v]
  | .aci v => [0xCE, v]
  | .sui v => [0xD6, v]
  | .sbi v => [0xDE, v]
  -- 43_logic.md
  | .cma => [0x2F]
  | .stc => [0x37]
  | .cmc => [0x3F]
  | .anaB => [0xA0]
  | .anaC => [0xA1]
  | .anaD => [0xA2]
  | .anaE => [0xA3]
  | .anaH => [0xA4]
  | .anaL => [0xA5]
  | .anaM => [0xA6]
  | .anaA => [0xA7]
  | .xraB => [0xA8]
  | .xraC => [0xA9]
  | .xraD => [0xAA]
  | .xraE => [0xAB]
  | .xraH => [0xAC]
  | .xraL => [0xAD]
  | .xraM => [0xAE]
  | .xraA => [0xAF]
  | .oraB => [0xB0]
  | .oraC => [0xB1]
  | .oraD => [0xB2]
  | .oraE => [0xB3]
  | .oraH => [0xB4]
  | .oraL => [0xB5]
  | .oraM => [0xB6]
  | .oraA => [0xB7]
  | .cmpB => [0xB8]
  | .cmpC => [0xB9]
  | .cmpD => [0xBA]
  | .cmpE => [0xBB]
  | .cmpH => [0xBC]
  | .cmpL => [0xBD]
  | .cmpM => [0xBE]
  | .cmpA => [0xBF]
  | .ani v => [0xE6, v]
  | .xri v => [0xEE, v]
  | .ori v => [0xF6, v]
  | .cpi v => [0xFE, v]
  -- 44_rotate.md
  | .rlc => [0x07]
  | .rrc => [0x0F]
  | .ral => [0x17]
  | .rar => [0x1F]
  -- 45_control_flow.md
  | .rnz => [0xC0]
  | .jnz v => [0xC2, lo8 v, hi8 v]
  | .jmp v => [0xC3, lo8 v, hi8 v]
  | .cnz v => [0xC4, lo8 v, hi8 v]
  | .rst0 => [0xC7]
  | .rz => [0xC8]
  | .ret => [0xC9]
  | .jz v => [0xCA, lo8 v, hi8 v]
  | .cz v => [0xCC, lo8 v, hi8 v]
  | .call v => [0xCD, lo8 v, hi8 v]
  | .rst1 => [0xCF]
  | .rnc => [0xD0]
  | .jnc v => [0xD2, lo8 v, hi8 v]
  | .cnc v => [0xD4, lo8 v, hi8 v]
  | .rst2 => [0xD7]
  | .rc => [0xD8]
  | .jc v => [0xDA, lo8 v, hi8 v]
  | .cc v => [0xDC, lo8 v, hi8 v]
  | .rst3 => [0xDF]
  | .rpo => [0xE0]
  | .jpo v => [0xE2, lo8 v, hi8 v]
  | .cpo v => [0xE4, lo8 v, hi8 v]
  | .rst4 => [0xE7]
  | .rpe => [0xE8]
  | .pchl => [0xE9]
  | .jpe v => [0xEA, lo8 v, hi8 v]
  | .cpe v => [0xEC, lo8 v, hi8 v]
  | .rst5 => [0xEF]
  | .rp => [0xF0]
  | .jp v => [0xF2, lo8 v, hi8 v]
  | .cp v => [0xF4, lo8 v, hi8 v]
  | .rst6 => [0xF7]
  | .rm => [0xF8]
  | .jm v => [0xFA, lo8 v, hi8 v]
  | .cm v => [0xFC, lo8 v, hi8 v]
  | .rst7 => [0xFF]
  -- 46_io_and_machine_control.md
  | .nop => [0x00]
  | .hlt => [0x76]
  | .out v => [0xD3, v]
  | .inp v => [0xDB, v]
  | .di => [0xF3]
  | .ei => [0xFB]
  -- 30_encoding.md R109
  | .illegal op => [op]

/-! ### The host's table words -/

/-- The three bytes of a word laid out as memory holds them, the bits above `nbits` zero. -/
def tableBytes (nbits w : Nat) : List Byte :=
  let v := w % 2 ^ nbits
  [BitVec.ofNat 8 v, BitVec.ofNat 8 (v / 2 ^ 8), BitVec.ofNat 8 (v / 2 ^ 16)]

/-- The instruction that the decoder reads from a word numbered as spec/opcode_table.json numbers it. -/
def decodeTableWord (nbits w : Nat) : Option Instr :=
  match decode (tableBytes nbits w) with
  | .instr i _ => some i
  | .refused _ => none

end Sys2Proof
end

