-- ==== Sys2Proof/Machine/Fetch.lean ====
section
/-! DEFINITION. Fetching an instruction (30_encoding.md R103, R110), and placing one where the next step fetches it. -/

namespace Sys2Proof.Machine

/-- The three bytes from PC on, the addresses wrapping (R101): the opcode and every operand byte an instruction can have. -/
def State.fetchBytes (s : State) : List Byte := [s.read s.pc, s.read (s.pc + 1), s.read (s.pc + 2)]

/-- The instruction at PC, all its bytes read before it writes anything (20_memory.md R59). -/
def State.fetch (s : State) : Instr := decodeBytes (s.read s.pc) (s.read (s.pc + 1)) (s.read (s.pc + 2))

/-- Consecutive bytes stored from an address on, the addresses wrapping. -/
def State.writeBytes (s : State) (a : Word) : List Byte → State
  | [] => s
  | v :: vs => (s.write a v).writeBytes (a + 1) vs

/-- A word of spec/opcode_table.json's numbering stored at PC, in a block that runs: not halted, not faulted. -/
def State.placeWord (s : State) (nbits w : Nat) : State :=
  { s.writeBytes s.pc (tableBytes nbits w) with halted := false, fault := none }

end Sys2Proof.Machine
end

