-- ==== Sys2Proof/Machine/Step.lean ====
section
/-! DEFINITION. One step of the block (30_encoding.md R110, R111; 60_exceptions.md R802). Interrupts are not part of a step
(60_exceptions.md R805): `raise` is a function of its own (log 4). -/

namespace Sys2Proof.Machine

/-- `step()` of R110: a faulted block has no step, a halted block takes an idle step, and otherwise exactly one handler runs. -/
def step (s : State) : Host.Outcome State Fault Refusal :=
  match s.fault with
  | some r => .fault (.stopped r.opcode r.pc)
  | none => if s.halted then .next s.idle else exec s.fetch s

/-- `s` with an instruction stored where `step` fetches its next one (log 7). -/
def State.withFetchWord (s : State) (nbits w : Nat) : State := s.placeWord nbits w

end Sys2Proof.Machine
end

