-- ==== Sys2Proof/Machine/Interrupt.lean ====
section
/-! DEFINITION. The interrupt call of the host (60_exceptions.md R803 to R809). -/

namespace Sys2Proof.Machine

/-- `raise(state, vector)`, applied between steps (R805): refused for a vector outside 0..7 (R807); nothing on a faulted block
(R802); lost with IE false (R804); otherwise interrupt entry (R806). -/
def raise (vector : Nat) (s : State) : Result :=
  if vector > 7 then .refused (.vectorOutOfRange vector)
  else
    match s.fault with
    | some _ => .next s
    | none => if s.ie then .next (s.interruptEntry vector) else .next s

end Sys2Proof.Machine
end

