-- ==== Sys2Proof/Machine/Driver.lean ====
section
/-! DEFINITION. The machine driver (60_exceptions.md R818): the host's only way to run the block. -/

namespace Sys2Proof.Machine

/-- The count a step returns (30_encoding.md R113, R111): that of the opcode at PC, or HALT_IDLE_CYCLES for an idle step. A step
that faults returns none (60_exceptions.md R801), and this is then not read. -/
def stepCycles (P : Config.Params) (s : State) : Nat :=
  if s.halted then P.haltIdleCycles else P.cycles (s.read s.pc)

/-- `step(state) -> cycles_consumed` (R110): the next state and the count. -/
def timedStep (P : Config.Params) (s : State) : Host.Outcome (State × Nat) Fault Refusal :=
  match step s with
  | .next t => .next (t, stepCycles P s)
  | .fault r => .fault r
  | .refused r => .refused r

/-- `next_vector` as a number. -/
def FrameVector.number : FrameVector → Nat
  | .one => 1
  | .two => 2

/-- The toggle of R818. -/
def FrameVector.toggle : FrameVector → FrameVector
  | .one => .two
  | .two => .one

/-- How a call of `run_frame` ends. -/
inductive FrameResult where
  /-- The budget was reached and the driver's interrupt step was done. -/
  | done (s : State)
  /-- A step faulted: the state has FAULT recorded (R801, R802). -/
  | faulted (s : State) (r : Fault)
  /-- A step or the interrupt call was refused. -/
  | refused (s : State) (r : Refusal)
  /-- More steps than a budget of positive counts allows. -/
  | unfinished (s : State)
  deriving DecidableEq, Repr

/-- The loop of R818: step and add, until `cycle_acc` reaches the budget. The first argument bounds the number of steps. -/
def frameLoop (P : Config.Params) : Nat → State → FrameResult
  | 0, s => if s.driver.cycleAcc < P.frameBudget then .unfinished s else .done s
  | n + 1, s =>
    if s.driver.cycleAcc < P.frameBudget then
      match timedStep P s with
      | .next (t, c) => frameLoop P n { t with driver := { t.driver with cycleAcc := t.driver.cycleAcc + c } }
      | .fault r => .faulted (s.afterFault r) r
      | .refused r => .refused s r
    else .done s

/-- After the loop (R818): if IE, `raise` with `next_vector`, and the toggle. -/
def frameEnd (s : State) : FrameResult :=
  if s.ie then
    match raise s.driver.nextVector.number s with
    | .next t => .done { t with driver := { t.driver with nextVector := t.driver.nextVector.toggle } }
    | .fault r => .faulted s r
    | .refused r => .refused s r
  else .done s

/-- `run_frame()` (R818): `cycle_acc` starts at 0 and the excess over the budget is not carried (92_eei_decisions.md D19). Each
step counts at least 1 (R908), so the budget bounds the number of steps. -/
def runFrame (P : Config.Params) (s : State) : FrameResult :=
  match frameLoop P P.frameBudget { s with driver := { s.driver with cycleAcc := 0 } } with
  | .done t => frameEnd t
  | r => r

end Sys2Proof.Machine
end

