-- ==== Sys2Proof/Machine/HostSide.lean ====
section
/-! DEFINITION. The rest of the host (60_exceptions.md R816, R817, R820): loader, input layer, renderer. The self-test
harness is SelfTest.lean. -/

namespace Sys2Proof.Machine

/-- The ROM loader (70_reset_and_hazards.md R902): a flat image stored byte for byte from an offset on, before the first step. An
image that ends beyond the memory is refused (log 8). -/
def State.loadImage (s : State) (base : Nat) (image : List Byte) : Result :=
  if base + image.length > 65536 then .refused (.imageOutOfRange base image.length)
  else .next (s.writeBytes (BitVec.ofNat 16 base) image)

/-- R902: "Multiple ROM fragments may be concatenated contiguously to build the full image". -/
def State.loadFragments (s : State) (base : Nat) (fragments : List (List Byte)) : Result :=
  s.loadImage base fragments.flatten

/-- The five named bits of `in_port1` (R816). -/
inductive InputLine where
  | coin
  | start1
  | fire
  | left
  | right
  deriving DecidableEq, Repr

/-- The bit of an input line (R816): 0, 2, 4, 5, 6. -/
def InputLine.bit : InputLine → Nat
  | .coin => 0
  | .start1 => 2
  | .fire => 4
  | .left => 5
  | .right => 6

/-- The input layer (R816): one bit of the latch set or cleared, before an interpreter batch. -/
def State.setInput (s : State) (line : InputLine) (down : Bool) : State :=
  let bit : Byte := 1#8 <<< line.bit
  let latch := if down then s.ports.inPort1 ||| bit else s.ports.inPort1 &&& ~~~bit
  { s with ports := { s.ports with inPort1 := latch } }

/-- The video memory the renderer reads (R817): the bytes [0x2400, 0x4000). -/
def State.videoMemory (s : State) : List Byte := (List.range 0x1C00).map fun k => s.read (BitVec.ofNat 16 (0x2400 + k))

/-- A pixel of byte `k` of the video memory (R817): "bit N = pixel N from LSB". -/
def State.pixel (s : State) (k : Nat) (n : Fin 8) : Bool := (s.read (BitVec.ofNat 16 (0x2400 + k))).getLsbD n

end Sys2Proof.Machine
end

