-- ==== Sys2Proof/Safety.lean ====
section
/-! DEFINITION. The terms the claims use: the invariant of a run, what a step leaves unchanged, and which instructions store,
transfer control or write flags. -/

namespace Sys2Proof.Machine

/-- What every step keeps: the memory is in its canonical form, and the block has not faulted (a faulted block has no step,
60_exceptions.md R802). -/
structure State.Inv (s : State) : Prop where
  canonical : s.mem.wf = true
  running : s.fault = none

/-- Every byte of memory reads as before. -/
def State.SameMem (s t : State) : Prop := ∀ x : Word, t.read x = s.read x

/-- Every byte of memory outside the listed addresses reads as before. -/
def State.SameMemBut (s t : State) (stored : List Word) : Prop := ∀ x : Word, x ∉ stored → t.read x = s.read x

/-- Every register outside the listed ones is as before. -/
def State.SameRegsBut (s t : State) (written : List Reg) : Prop := ∀ r : Reg, r ∉ written → t.regs.get r = s.regs.get r

/-- IE, HALTED, FAULT, the port devices and the driver's fields are as before. -/
def State.SameSystem (s t : State) : Prop :=
  t.ie = s.ie ∧ t.halted = s.halted ∧ t.fault = s.fault ∧ t.ports = s.ports ∧ t.driver = s.driver

/-- The registers of a pair, high byte first (10_state.md R23); SP is no register of the file. -/
def pairRegs : Pair → List Reg
  | .bc => [.b, .c]
  | .de => [.d, .e]
  | .hl => [.h, .l]
  | .sp => []

/-- The pair an LDAX or STAX goes through (30_encoding.md R102). -/
def indexPair : IndexPair → Pair
  | .bc => .bc
  | .de => .de

/-- The high and the low byte a PUSH stores (10_state.md R24). -/
def pushedBytes (s : State) : StackPair → Byte × Byte
  | .bc => (s.regs.b, s.regs.c)
  | .de => (s.regs.d, s.regs.e)
  | .hl => (s.regs.h, s.regs.l)
  | .psw => (s.regs.a, s.flags.toByte)

/-- An even number of the eight bits are 1 (10_state.md R28). -/
def EvenOnes (v : Byte) : Prop := (List.range 8).countP (fun k => v.getLsbD k) % 2 = 0

/-- Z, S and P as a result sets them (10_state.md R29). -/
def Flags.Show (f : Flags) (v : Byte) : Prop :=
  (f.z = true ↔ v.toNat = 0) ∧ (f.s = true ↔ v.toNat ≥ 128) ∧ (f.p = true ↔ EvenOnes v)

/-- The control transfers (45_control_flow.md): the instructions whose rule names a target. -/
def Transfers : Instr → Prop
  | .jmp _ | .pchl | .call _ | .ret => True
  | .jnz _ | .jz _ | .jnc _ | .jc _ | .jpo _ | .jpe _ | .jp _ | .jm _ => True
  | .cnz _ | .cz _ | .cnc _ | .cc _ | .cpo _ | .cpe _ | .cp _ | .cm _ => True
  | .rnz | .rz | .rnc | .rc | .rpo | .rpe | .rp | .rm => True
  | .rst0 | .rst1 | .rst2 | .rst3 | .rst4 | .rst5 | .rst6 | .rst7 => True
  | _ => False

/-- The addresses an instruction may store to, computed as its rule computes them: H:L, the direct address, a pair, the top of
the stack, the two bytes below it. -/
def storeAddresses (i : Instr) (s : State) : List Word :=
  match i with
  | .movMB | .movMC | .movMD | .movME | .movMH | .movML | .movMA | .mviM _ | .inrM | .dcrM => [s.pair .hl]
  | .sta a => [a]
  | .shld a => [a, a + 1]
  | .staxB => [s.pair .bc]
  | .staxD => [s.pair .de]
  | .xthl => [s.sp, s.sp + 1]
  | .pushB | .pushD | .pushH | .pushPSW | .call _ => [s.sp - 1, s.sp - 2]
  | .rst0 | .rst1 | .rst2 | .rst3 | .rst4 | .rst5 | .rst6 | .rst7 => [s.sp - 1, s.sp - 2]
  | .cnz _ => if s.flags.z then [] else [s.sp - 1, s.sp - 2]
  | .cz _ => if s.flags.z then [s.sp - 1, s.sp - 2] else []
  | .cnc _ => if s.flags.cy then [] else [s.sp - 1, s.sp - 2]
  | .cc _ => if s.flags.cy then [s.sp - 1, s.sp - 2] else []
  | .cpo _ => if s.flags.p then [] else [s.sp - 1, s.sp - 2]
  | .cpe _ => if s.flags.p then [s.sp - 1, s.sp - 2] else []
  | .cp _ => if s.flags.s then [] else [s.sp - 1, s.sp - 2]
  | .cm _ => if s.flags.s then [s.sp - 1, s.sp - 2] else []
  | _ => []

/-- The instructions whose rule lists a flag (10_state.md R27): the ALU forms, INR, DCR, DAD, DAA, CMC, STC, the rotates, POP PSW. -/
def WritesFlags (i : Instr) : Prop :=
  (∃ op o, i = .alu op o) ∨ (∃ d op, i = .aluImm d op) ∨ (∃ o, i = .inr o) ∨ (∃ o, i = .dcr o) ∨ (∃ p, i = .dad p)
    ∨ i ∈ [Instr.daa, .cmc, .stc, .rlc, .rrc, .ral, .rar, .popPSW]

/-- A state with another input latch. -/
def State.withInPort1 (s : State) (v : Byte) : State := { s with ports := { s.ports with inPort1 := v } }

/-- A state with other driver fields. -/
def State.withDriver (s : State) (d : DriverState) : State := { s with driver := d }

/-- What a host does between two boundaries: `none` is a step of the block, `some v` an interrupt call with vector `v`
(60_exceptions.md R805). -/
abbrev HostMove := Option (Fin 8)

/-- One move of the host. -/
def hostMove : HostMove → State → Result
  | none, s => step s
  | some v, s => raise v s

/-- A sequence of moves, up to the first fault or refusal. -/
def hostMoves : List HostMove → State → Result
  | [], s => .next s
  | m :: ms, s =>
    match hostMove m s with
    | .next t => hostMoves ms t
    | .fault r => .fault r
    | .refused r => .refused r

/-- The counts of the first `n` steps from a state, added up (30_encoding.md R113, R111). -/
def cycleSum (P : Config.Params) : Nat → State → Nat
  | 0, _ => 0
  | n + 1, s =>
    match timedStep P s with
    | .next (t, c) => c + cycleSum P n t
    | _ => 0

/-- An outcome with its next state changed. -/
def mapNext (f : State → State) : Result → Result
  | .next t => .next (f t)
  | .fault r => .fault r
  | .refused r => .refused r

end Sys2Proof.Machine
end

