-- ==== Sys2Proof/Certificates/Slice0/Obligations.lean ====
section
/-! DEFINITION. The statements for the provers. Each docstring names the rules of spec/ it rests on, and, where a clause rests on
a decision of 92_eei_decisions.md or on an entry of the assumption log, that decision or entry. Constructors are named by the
builders of Decode.lean: `.movRR d r` is each of the 49 MOV of two registers, `.alu op o` each of the 64 ALU forms, and so on.
That PC and every address wrap (D2) and that the first-named register of a pair is its high byte (D27) are the spec's own choices
and hold in every statement below that has a PC, an address or a pair. -/

open Sys2Proof Sys2Proof.Machine

/-! ### Encoding and the step -/

/-- A word of each family, written out from 30_encoding.md R100, R101 and R104 to R109, decodes to its instruction. The opcode map
is the spec's own choice (92_eei_decisions.md D25), and so is the order of the operand bytes of LXI H and JNZ (D1). That the decoder
reads an illegal opcode as its one byte is the model's choice (log 9): R100 gives it no length. -/
def Obligations.SampleWordsDecode : Prop :=
  decode [0x41] = .instr .movBC [] ∧ decode [0x36, 0x77] = .instr (.mviM 0x77) []
    ∧ decode [0x21, 0x00, 0x20] = .instr (.lxiH 0x2000) [] ∧ decode [0xF5] = .instr .pushPSW []
    ∧ decode [0x29] = .instr .dadH [] ∧ decode [0x96] = .instr .subM [] ∧ decode [0xE6, 0x30] = .instr (.ani 0x30) []
    ∧ decode [0x0F] = .instr .rrc [] ∧ decode [0xC2, 0x09, 0x00] = .instr (.jnz 0x0009) []
    ∧ decode [0xDF] = .instr .rst3 [] ∧ decode [0xD3, 0x04] = .instr (.out 0x04) [] ∧ decode [0x76] = .instr .hlt []
    ∧ decode [0x08] = .instr (.illegal 0x08) [] ∧ decode [0xC3, 0x00] = .refused (.truncated 3)

/-- Decoding the bytes of a well-formed instruction gives it back, with every operand at every value, and leaves the bytes after
it (30_encoding.md R100 to R109, D25, D1). For ILLEGAL the encoding as one byte is the model's choice (log 9): R100 gives an illegal
opcode no length. -/
def Obligations.DecodeGivesBackEncoded : Prop :=
  ∀ (i : Instr) (rest : List Byte), i.wellFormed = true → decode (encode i ++ rest) = .instr i rest

/-- What the decoder reads is well formed, and its bytes are the bytes read: each word has one meaning (R100 to R109, D25, D1).
That an illegal opcode is the one byte read is the model's choice (log 9): R100 gives it no length. -/
def Obligations.EncodeGivesBackDecoded : Prop :=
  ∀ (bytes rest : List Byte) (i : Instr), decode bytes = .instr i rest → i.wellFormed = true ∧ encode i ++ rest = bytes

/-- R100: 2 bytes for MVI, the immediate ALU forms, IN and OUT; 3 bytes for LXI, SHLD, LHLD, STA, LDA, the jumps and the calls; 1
byte for every other defined opcode. The assignment is general knowledge that D25 adopts. -/
def Obligations.LengthFollowsOpcode : Prop :=
  ∀ op b1 b2 : Byte, op ∉ illegalOpcodes → (encode (decodeBytes op b1 b2)).length =
    if op &&& 0xC7 = 0x06 ∨ op &&& 0xC7 = 0xC6 ∨ op = 0xD3 ∨ op = 0xDB then 2
    else if op &&& 0xCF = 0x01 ∨ op &&& 0xE7 = 0x22 ∨ op &&& 0xC7 = 0xC2 ∨ op &&& 0xC7 = 0xC4 ∨ op = 0xC3 ∨ op = 0xCD then 3
    else 1

/-- R109: exactly twelve opcodes are illegal, whatever bytes follow, and ILLEGAL carries the opcode fetched (D25, D3; one
constructor for the twelve is the model's choice, log 9). -/
def Obligations.IllegalOpcodesAreTheTwelve : Prop :=
  ∀ op b1 b2 o : Byte, decodeBytes op b1 b2 = .illegal o ↔
    o = op ∧ op ∈ [0x08, 0x10, 0x18, 0x20, 0x28, 0x30, 0x38, 0xCB, 0xD9, 0xDD, 0xED, (0xFD : Byte)]

/-- R110: when the bytes at PC decode to `i`, a step of a block that is neither faulted nor halted is `exec i`, which itself moves
PC (R112). -/
def Obligations.StepRunsDecodedInstruction : Prop :=
  ∀ (s : State) (i : Instr) (rest : List Byte), s.fault = none → s.halted = false →
    decode [s.read s.pc, s.read (s.pc + 1), s.read (s.pc + 2)] = .instr i rest → step s = exec i s

/-! ### Faults, halt, reset, invariants -/

/-- R62: "The only fault of the block is the illegal opcode": every defined instruction completes from every state, and ILLEGAL
faults (R801, D3). That the fault reports the opcode and PC is the spec's own choice (D34), and that it does so as the outcome of
the step is the model's (log 3). -/
def Obligations.OnlyTheIllegalOpcodeFaults : Prop :=
  ∀ (i : Instr) (s : State),
    ((∀ op, i ≠ .illegal op) → ∃ t, exec i s = .next t)
      ∧ (∀ op, i = .illegal op → exec i s = .fault (.unimplementedInstruction op s.pc))

/-- R801, R802, with D4 (nothing else changes) and D34 (the record), log 3: the step that fetches an illegal opcode faults; the
fault leaves the state with FAULT recorded; and from then on no step exists and `raise` does nothing. -/
def Obligations.IllegalOpcodeStopsTheBlock : Prop :=
  (∀ s : State, s.fault = none → s.halted = false → s.read s.pc ∈ illegalOpcodes →
    step s = .fault (.unimplementedInstruction (s.read s.pc) s.pc)
      ∧ s.afterFault (.unimplementedInstruction (s.read s.pc) s.pc) = { s with fault := some ⟨s.read s.pc, s.pc⟩ })
    ∧ (∀ (s : State) (r : FaultRecord), s.fault = some r →
        step s = .fault (.stopped r.opcode r.pc) ∧ ∀ v ≤ 7, raise v s = .next s)

/-- R111 and R705, the latch and the count being the spec's own (D8, D9). An idle step of a halted block changes nothing and
returns HALT_IDLE_CYCLES, by default 4. So the block stays as it is over any number of steps while no interrupt is raised (a run
of `step` alone raises none, log 4), and with IE false over any number of steps and interrupt calls. With IE true a delivered
interrupt ends the halt and pushes the address after the HLT. -/
def Obligations.HaltedBlockIdles : Prop :=
  ∀ s : State, s.fault = none → s.halted = true →
    (∀ P : Config.Params, timedStep P s = .next (s, P.haltIdleCycles)) ∧ Config.defaultParams.haltIdleCycles = 4
      ∧ (∀ n, Sys2Proof.core.run n s = .next s)
      ∧ (s.ie = false → ∀ moves : List HostMove, hostMoves moves s = .next s)
      ∧ (s.ie = true → ∀ v ≤ 7, ∃ t, raise v s = .next t ∧ t.halted = false ∧ t.pc = BitVec.ofNat 16 (8 * v) ∧ t.top = s.pc)

/-- R900: every field zero. HALTED, FAULT, `cycle_acc` and `next_vector` are the spec's own (D28), the default FIRST_VECTOR too
(D19); that memory reads 0x00 is the model's choice (log 1). The parameters FIRST_VECTOR and INIT_MEM (R6, D17) fill the two
fields a launch may choose. -/
def Obligations.ResetLeavesZero : Prop :=
  (∀ r : Reg, State.reset.regs.get r = 0) ∧ State.reset.sp = 0 ∧ State.reset.pc = 0 ∧ State.reset.flags.toByte = 0x02
    ∧ State.reset.ie = false ∧ State.reset.halted = false ∧ State.reset.fault = none
    ∧ State.reset.ports = ⟨0, 0, 0, 0⟩ ∧ State.reset.driver = ⟨0, .one⟩ ∧ (∀ a : Word, State.reset.read a = 0)
    ∧ (∀ (first : FrameVector) (m : Memory), State.launch first m = { State.reset with mem := m, driver := ⟨0, first⟩ })

/-- The invariant holds at reset. That the memory is in the canonical form there rests on the model's choice that reset memory
lists nothing (log 1), that FAULT is none on the spec's own D28. -/
def Obligations.ResetMeetsInvariant : Prop := State.reset.Inv

/-- Every step, from every state that meets it, keeps the invariant: canonical memory (log 1) and no fault on record (R802). -/
def Obligations.StepKeepsInvariant : Prop := ∀ s t : State, s.Inv → step s = .next t → t.Inv

/-- The host keeps the invariant: an interrupt, a loaded image, an input, a frame that ends without a fault. That memory has a
canonical form to keep is the model's choice (log 1); that no fault is on record in a running block is R802. -/
def Obligations.HostKeepsInvariant : Prop :=
  ∀ s t : State, s.Inv →
    (∀ v, raise v s = .next t → t.Inv) ∧ (∀ base image, s.loadImage base image = .next t → t.Inv)
      ∧ (∀ line down, (s.setInput line down).Inv) ∧ (∀ P, runFrame P s = .done t → t.Inv)

/-! ### Whole-machine rules -/

/-- R32, R33, R34, R37, R38, R39, R41: only EI and DI write IE, only HLT HALTED, only OUT 4 the shift register, only OUT 2 the
shift offset; no instruction writes FAULT, the input latch or the driver's fields. HALTED is the spec's own (D8). -/
def Obligations.SystemStateWriters : Prop :=
  ∀ (i : Instr) (s t : State), exec i s = .next t →
    (t.ie ≠ s.ie → i = .ei ∨ i = .di) ∧ (t.halted ≠ s.halted → i = .hlt)
      ∧ ((t.ports.shift0 ≠ s.ports.shift0 ∨ t.ports.shift1 ≠ s.ports.shift1) → i = .out 4)
      ∧ (t.ports.shiftOffset ≠ s.ports.shiftOffset → i = .out 2)
      ∧ t.ports.inPort1 = s.ports.inPort1 ∧ t.fault = s.fault ∧ t.driver = s.driver

/-- R27: "Each flag is written only by the instructions whose rules list it". D26 for INX, DCX, CMA, CMC, STC and NOP. -/
def Obligations.FlagWriters : Prop :=
  ∀ (i : Instr) (s t : State), exec i s = .next t → ¬ WritesFlags i → t.flags = s.flags

/-- R51, R55: an instruction changes no byte of memory outside the addresses its rule stores to. -/
def Obligations.StoresOnlyWhereTheRuleSays : Prop :=
  ∀ (i : Instr) (s t : State), exec i s = .next t → s.SameMemBut t (storeAddresses i s)

/-- R112, R26 (wrapping, D2): "An instruction whose rule names no target ends with PC <- next", `next` being PC plus its length. -/
def Obligations.ProgramCounterAdvances : Prop :=
  ∀ (i : Instr) (s t : State), exec i s = .next t → ¬ Transfers i → t.pc = s.pc + BitVec.ofNat 16 (encode i).length

/-- R41, R821: no step reads or writes the driver's fields. -/
def Obligations.StepIgnoresDriverFields : Prop :=
  ∀ (s : State) (d : DriverState), step (s.withDriver d) = mapNext (fun t => t.withDriver d) (step s)

/-- R39, R811: the input latch reaches a program through IN 1 only. -/
def Obligations.InputLatchReachesOnlyIn1 : Prop :=
  ∀ (i : Instr) (s : State) (v : Byte), i ≠ .inp 1 →
    exec i (s.withInPort1 v) = mapNext (fun t => t.withInPort1 v) (exec i s)

/-! ### Primitives -/

/-- R57: `Push16` and `Pop16`, SP wrapping. -/
def Obligations.StackGrowsDown : Prop :=
  ∀ (s : State) (v : Word),
    (s.push v).sp = s.sp - 2 ∧ (s.push v).read (s.sp - 1) = hi8 v ∧ (s.push v).read (s.sp - 2) = lo8 v
      ∧ s.SameMemBut (s.push v) [s.sp - 1, s.sp - 2]
      ∧ s.top = cat16 (s.read (s.sp + 1)) (s.read s.sp) ∧ s.dropTop = { s with sp := s.sp + 2 }
      ∧ (s.sp = 0x0000 → (s.push v).read 0xFFFF = hi8 v ∧ (s.push v).read 0xFFFE = lo8 v ∧ (s.push v).sp = 0xFFFE)
      ∧ (s.sp = 0xFFFF → s.top = cat16 (s.read 0x0000) (s.read 0xFFFF) ∧ s.dropTop.sp = 0x0001)

/-- R28, R29: `Parity` and `ZSP`. -/
def Obligations.ParityAndZsp : Prop :=
  (∀ v : Byte, parity v = true ↔ EvenOnes v) ∧ parity 0x00 = true
    ∧ (∀ (f : Flags) (v : Byte), (f.zsp v).Show v ∧ (f.zsp v).cy = f.cy ∧ (f.zsp v).ac = f.ac)

/-- R30: the flag byte, bit by bit. -/
def Obligations.FlagByteLayout : Prop :=
  (∀ f : Flags, f.toByte.getLsbD 7 = f.s ∧ f.toByte.getLsbD 6 = f.z ∧ f.toByte.getLsbD 5 = false ∧ f.toByte.getLsbD 4 = f.ac
    ∧ f.toByte.getLsbD 3 = false ∧ f.toByte.getLsbD 2 = f.p ∧ f.toByte.getLsbD 1 = true ∧ f.toByte.getLsbD 0 = f.cy)
    ∧ Flags.toByte ⟨false, false, false, false, false⟩ = 0x02 ∧ Flags.toByte ⟨true, true, true, true, true⟩ = 0xD7

/-! ### Data movement -/

/-- R200: MOV of two registers, all 49. The direction is general knowledge (G9). -/
def Obligations.MovCopiesRegister : Prop :=
  ∀ (dst src : Reg) (s : State), ∃ t, exec (.movRR dst src) s = .next t ∧ t.regs.get dst = s.regs.get src
    ∧ s.SameRegsBut t [dst] ∧ t.sp = s.sp ∧ t.pc = s.pc + 1 ∧ t.flags = s.flags ∧ s.SameMem t ∧ s.SameSystem t

/-- R201, R202, R204: MOV r,M; MOV M,r; MVI M. The address is the H:L of before the instruction (R22). -/
def Obligations.MovThroughMemoryOperand : Prop :=
  (∀ (dst : Reg) (s : State), ∃ t, exec (.movRM dst) s = .next t ∧ t.regs.get dst = s.read (s.pair .hl)
    ∧ s.SameRegsBut t [dst] ∧ t.sp = s.sp ∧ t.pc = s.pc + 1 ∧ t.flags = s.flags ∧ s.SameMem t ∧ s.SameSystem t)
    ∧ (∀ (src : Reg) (s : State), ∃ t, exec (.movMR src) s = .next t ∧ t.read (s.pair .hl) = s.regs.get src
      ∧ s.SameMemBut t [s.pair .hl] ∧ t.regs = s.regs ∧ t.sp = s.sp ∧ t.pc = s.pc + 1 ∧ t.flags = s.flags ∧ s.SameSystem t)
    ∧ (∀ (d : Byte) (s : State), ∃ t, exec (.mviM d) s = .next t ∧ t.read (s.pair .hl) = d
      ∧ s.SameMemBut t [s.pair .hl] ∧ t.regs = s.regs ∧ t.sp = s.sp ∧ t.pc = s.pc + 2 ∧ t.flags = s.flags ∧ s.SameSystem t)

/-- R203, R205: MVI of the seven registers, LXI of the four pairs (byte order D1, D27). -/
def Obligations.ImmediateLoads : Prop :=
  (∀ (r : Reg) (d : Byte) (s : State), ∃ t, exec (.mvi d (.reg r)) s = .next t ∧ t.regs.get r = d
    ∧ s.SameRegsBut t [r] ∧ t.sp = s.sp ∧ t.pc = s.pc + 2 ∧ t.flags = s.flags ∧ s.SameMem t ∧ s.SameSystem t)
    ∧ (∀ (p : Pair) (d : Word) (s : State), ∃ t, exec (.lxi d p) s = .next t ∧ t.pair p = d
      ∧ s.SameRegsBut t (pairRegs p) ∧ (p ≠ .sp → t.sp = s.sp) ∧ t.pc = s.pc + 3 ∧ t.flags = s.flags
      ∧ s.SameMem t ∧ s.SameSystem t)

/-- R206, R210: LDA, LDAX B, LDAX D. -/
def Obligations.AccumulatorLoads : Prop :=
  (∀ (a : Word) (s : State), ∃ t, exec (.lda a) s = .next t ∧ t.regs.a = s.read a
    ∧ s.SameRegsBut t [.a] ∧ t.sp = s.sp ∧ t.pc = s.pc + 3 ∧ t.flags = s.flags ∧ s.SameMem t ∧ s.SameSystem t)
    ∧ (∀ (p : IndexPair) (s : State), ∃ t, exec (.ldax p) s = .next t ∧ t.regs.a = s.read (s.pair (indexPair p))
      ∧ s.SameRegsBut t [.a] ∧ t.sp = s.sp ∧ t.pc = s.pc + 1 ∧ t.flags = s.flags ∧ s.SameMem t ∧ s.SameSystem t)

/-- R207, R211: STA, STAX B, STAX D. -/
def Obligations.AccumulatorStores : Prop :=
  (∀ (a : Word) (s : State), ∃ t, exec (.sta a) s = .next t ∧ t.read a = s.regs.a
    ∧ s.SameMemBut t [a] ∧ t.regs = s.regs ∧ t.sp = s.sp ∧ t.pc = s.pc + 3 ∧ t.flags = s.flags ∧ s.SameSystem t)
    ∧ (∀ (p : IndexPair) (s : State), ∃ t, exec (.stax p) s = .next t ∧ t.read (s.pair (indexPair p)) = s.regs.a
      ∧ s.SameMemBut t [s.pair (indexPair p)] ∧ t.regs = s.regs ∧ t.sp = s.sp ∧ t.pc = s.pc + 1 ∧ t.flags = s.flags
      ∧ s.SameSystem t)

/-- R208, R209: LHLD and SHLD, low byte at the address and high byte at the next, wrapping (D1, D2). -/
def Obligations.HlLoadAndStore : Prop :=
  ∀ (a : Word) (s : State),
    (∃ t, exec (.lhld a) s = .next t ∧ t.regs.l = s.read a ∧ t.regs.h = s.read (a + 1)
      ∧ s.SameRegsBut t [.h, .l] ∧ t.sp = s.sp ∧ t.pc = s.pc + 3 ∧ t.flags = s.flags ∧ s.SameMem t ∧ s.SameSystem t)
    ∧ (∃ t, exec (.shld a) s = .next t ∧ t.read a = s.regs.l ∧ t.read (a + 1) = s.regs.h
      ∧ s.SameMemBut t [a, a + 1] ∧ t.regs = s.regs ∧ t.sp = s.sp ∧ t.pc = s.pc + 3 ∧ t.flags = s.flags ∧ s.SameSystem t)

/-- R212, R218: XCHG and SPHL. -/
def Obligations.ExchangeAndSetStackPointer : Prop :=
  ∀ s : State,
    (∃ t, exec .xchg s = .next t ∧ t.regs.d = s.regs.h ∧ t.regs.e = s.regs.l ∧ t.regs.h = s.regs.d ∧ t.regs.l = s.regs.e
      ∧ s.SameRegsBut t [.d, .e, .h, .l] ∧ t.sp = s.sp ∧ t.pc = s.pc + 1 ∧ t.flags = s.flags ∧ s.SameMem t ∧ s.SameSystem t)
    ∧ (∃ t, exec .sphl s = .next t ∧ t.sp = s.pair .hl
      ∧ t.regs = s.regs ∧ t.pc = s.pc + 1 ∧ t.flags = s.flags ∧ s.SameMem t ∧ s.SameSystem t)

/-- R213, R214: PUSH B, D, H and PSW (PSW layout D22): high byte at SP - 1, low byte at SP - 2. SP moves too. -/
def Obligations.PushStoresTwoBytes : Prop :=
  ∀ (p : StackPair) (s : State), ∃ t, exec (.push p) s = .next t
    ∧ t.read (s.sp - 1) = (pushedBytes s p).1 ∧ t.read (s.sp - 2) = (pushedBytes s p).2 ∧ t.sp = s.sp - 2
    ∧ s.SameMemBut t [s.sp - 1, s.sp - 2] ∧ t.regs = s.regs ∧ t.pc = s.pc + 1 ∧ t.flags = s.flags ∧ s.SameSystem t

/-- R215, R216, R31: POP B, D, H and PSW (PSW layout D22, ignored bits D23). SP moves too. -/
def Obligations.PopLoadsTwoBytes : Prop :=
  ∀ s : State,
    (∃ t, exec .popB s = .next t ∧ t.regs.c = s.read s.sp ∧ t.regs.b = s.read (s.sp + 1) ∧ s.SameRegsBut t [.b, .c]
      ∧ t.flags = s.flags ∧ t.sp = s.sp + 2 ∧ t.pc = s.pc + 1 ∧ s.SameMem t ∧ s.SameSystem t)
    ∧ (∃ t, exec .popD s = .next t ∧ t.regs.e = s.read s.sp ∧ t.regs.d = s.read (s.sp + 1) ∧ s.SameRegsBut t [.d, .e]
      ∧ t.flags = s.flags ∧ t.sp = s.sp + 2 ∧ t.pc = s.pc + 1 ∧ s.SameMem t ∧ s.SameSystem t)
    ∧ (∃ t, exec .popH s = .next t ∧ t.regs.l = s.read s.sp ∧ t.regs.h = s.read (s.sp + 1) ∧ s.SameRegsBut t [.h, .l]
      ∧ t.flags = s.flags ∧ t.sp = s.sp + 2 ∧ t.pc = s.pc + 1 ∧ s.SameMem t ∧ s.SameSystem t)
    ∧ (∃ t, exec .popPSW s = .next t ∧ t.regs.a = s.read (s.sp + 1) ∧ s.SameRegsBut t [.a]
      ∧ t.flags.s = (s.read s.sp).getLsbD 7 ∧ t.flags.z = (s.read s.sp).getLsbD 6 ∧ t.flags.ac = (s.read s.sp).getLsbD 4
      ∧ t.flags.p = (s.read s.sp).getLsbD 2 ∧ t.flags.cy = (s.read s.sp).getLsbD 0
      ∧ t.sp = s.sp + 2 ∧ t.pc = s.pc + 1 ∧ s.SameMem t ∧ s.SameSystem t)

/-- R217: XTHL. -/
def Obligations.ExchangeTopOfStack : Prop :=
  ∀ s : State, ∃ t, exec .xthl s = .next t ∧ t.regs.l = s.read s.sp ∧ t.regs.h = s.read (s.sp + 1)
    ∧ t.read s.sp = s.regs.l ∧ t.read (s.sp + 1) = s.regs.h ∧ s.SameMemBut t [s.sp, s.sp + 1] ∧ s.SameRegsBut t [.h, .l]
    ∧ t.sp = s.sp ∧ t.pc = s.pc + 1 ∧ t.flags = s.flags ∧ s.SameSystem t

/-- R216, R31 and the source's property P2: POP PSW after PUSH PSW restores A, every flag and SP, from every state (D22, D23). -/
def Obligations.PushPopPswRoundTrip : Prop :=
  ∀ s : State, ∃ t u, exec .pushPSW s = .next t ∧ exec .popPSW t = .next u
    ∧ u.regs = s.regs ∧ u.flags = s.flags ∧ u.sp = s.sp ∧ u.pc = s.pc + 2 ∧ s.SameMemBut u [s.sp - 1, s.sp - 2]

/-! ### Arithmetic and logic -/

/-- What adding a byte and a carry to A leaves (R300). -/
def Sys2Proof.Machine.AddsToA (i : Instr) (s : State) (v : Byte) (cin : Bool) (len : Word) : Prop :=
  ∃ t, exec i s = .next t ∧ t.regs.a.toNat = (s.regs.a.toNat + v.toNat + cin.toNat) % 256
    ∧ (t.flags.cy = true ↔ s.regs.a.toNat + v.toNat + cin.toNat > 255)
    ∧ (t.flags.ac = true ↔ s.regs.a.toNat % 16 + v.toNat % 16 + cin.toNat > 15) ∧ t.flags.Show t.regs.a
    ∧ s.SameRegsBut t [.a] ∧ t.sp = s.sp ∧ t.pc = s.pc + len ∧ s.SameMem t ∧ s.SameSystem t

/-- What subtracting a byte and a borrow from A leaves in the flags (R301). -/
def Sys2Proof.Machine.SubtractionFlags (f : Flags) (a v : Byte) (bin : Bool) : Prop :=
  (f.cy = true ↔ a.toNat < v.toNat + bin.toNat) ∧ (f.ac = true ↔ a.toNat % 16 < v.toNat % 16 + bin.toNat)
    ∧ f.Show (a - v - BitVec.ofNat 8 bin.toNat)

/-- What subtracting a byte and a borrow from A leaves (R301). -/
def Sys2Proof.Machine.SubtractsFromA (i : Instr) (s : State) (v : Byte) (bin : Bool) (len : Word) : Prop :=
  ∃ t, exec i s = .next t ∧ (t.regs.a.toNat + v.toNat + bin.toNat) % 256 = s.regs.a.toNat
    ∧ SubtractionFlags t.flags s.regs.a v bin
    ∧ s.SameRegsBut t [.a] ∧ t.sp = s.sp ∧ t.pc = s.pc + len ∧ s.SameMem t ∧ s.SameSystem t

/-- What comparing A with a byte leaves (R411). -/
def Sys2Proof.Machine.ComparesA (i : Instr) (s : State) (v : Byte) (len : Word) : Prop :=
  ∃ t, exec i s = .next t ∧ t.regs = s.regs ∧ SubtractionFlags t.flags s.regs.a v false
    ∧ t.sp = s.sp ∧ t.pc = s.pc + len ∧ s.SameMem t ∧ s.SameSystem t

/-- What a logical operation with result `r` leaves (R400, R401). -/
def Sys2Proof.Machine.LogicToA (i : Instr) (s : State) (r : Byte) (ac : Bool) (len : Word) : Prop :=
  ∃ t, exec i s = .next t ∧ t.regs.a = r ∧ t.flags.cy = false ∧ t.flags.ac = ac ∧ t.flags.Show r
    ∧ s.SameRegsBut t [.a] ∧ t.sp = s.sp ∧ t.pc = s.pc + len ∧ s.SameMem t ∧ s.SameSystem t

/-- R300, R304 to R309: ADD, ADC over the registers and M, ADI, ACI. The carry-in is general knowledge (G10, G12). -/
def Obligations.AdditionToA : Prop :=
  ∀ s : State, (∀ o, AddsToA (.alu .add o) s (s.operand o) false 1) ∧ (∀ d, AddsToA (.adi d) s d false 2)
    ∧ (∀ o, AddsToA (.alu .adc o) s (s.operand o) s.flags.cy 1) ∧ (∀ d, AddsToA (.aci d) s d s.flags.cy 2)

/-- R301, R310 to R315: SUB, SBB over the registers and M, SUI, SBI. AC is the borrow convention of D6. -/
def Obligations.SubtractionFromA : Prop :=
  ∀ s : State, (∀ o, SubtractsFromA (.alu .sub o) s (s.operand o) false 1) ∧ (∀ d, SubtractsFromA (.sui d) s d false 2)
    ∧ (∀ o, SubtractsFromA (.alu .sbb o) s (s.operand o) s.flags.cy 1) ∧ (∀ d, SubtractsFromA (.sbi d) s d s.flags.cy 2)

/-- R400, R402 to R404: ANA over the registers and M, ANI. AC is bit 4 of the result (D5). -/
def Obligations.AndToA : Prop :=
  ∀ s : State,
    (∀ o, LogicToA (.alu .ana o) s (s.regs.a &&& s.operand o) ((s.regs.a &&& s.operand o).getLsbD 4) 1)
      ∧ (∀ d, LogicToA (.ani d) s (s.regs.a &&& d) ((s.regs.a &&& d).getLsbD 4) 2)

/-- R401, at every form of R405 to R410: XRA, ORA over the registers and M, XRI, ORI (the pair H:L by D27, PC wrapping by D2). -/
def Obligations.OrAndXorToA : Prop :=
  ∀ s : State,
    (∀ o, LogicToA (.alu .ora o) s (s.regs.a ||| s.operand o) false 1) ∧ (∀ d, LogicToA (.ori d) s (s.regs.a ||| d) false 2)
      ∧ (∀ o, LogicToA (.alu .xra o) s (s.regs.a ^^^ s.operand o) false 1)
      ∧ (∀ d, LogicToA (.xri d) s (s.regs.a ^^^ d) false 2)

/-- R411 to R413: CMP over the registers and M, CPI: A unchanged, the flags of the subtraction (AC by D6). -/
def Obligations.CompareWithA : Prop :=
  ∀ s : State, (∀ o, ComparesA (.alu .cmp o) s (s.operand o) 1) ∧ (∀ d, ComparesA (.cpi d) s d 2)

/-- R302, R316, R317: INR of the seven registers and of M; CY unchanged. AC by R302's own derivation from R300. -/
def Obligations.IncrementOperand : Prop :=
  (∀ (r : Reg) (s : State), ∃ t, exec (.inr (.reg r)) s = .next t
    ∧ (t.regs.get r).toNat = ((s.regs.get r).toNat + 1) % 256 ∧ (t.flags.ac = true ↔ (s.regs.get r).toNat % 16 = 15)
    ∧ t.flags.Show (t.regs.get r) ∧ t.flags.cy = s.flags.cy
    ∧ s.SameRegsBut t [r] ∧ t.sp = s.sp ∧ t.pc = s.pc + 1 ∧ s.SameMem t ∧ s.SameSystem t)
    ∧ (∀ s : State, ∃ t, exec .inrM s = .next t
      ∧ (t.read (s.pair .hl)).toNat = ((s.read (s.pair .hl)).toNat + 1) % 256
      ∧ (t.flags.ac = true ↔ (s.read (s.pair .hl)).toNat % 16 = 15)
      ∧ t.flags.Show (t.read (s.pair .hl)) ∧ t.flags.cy = s.flags.cy
      ∧ s.SameMemBut t [s.pair .hl] ∧ t.regs = s.regs ∧ t.sp = s.sp ∧ t.pc = s.pc + 1 ∧ s.SameSystem t)

/-- R303, at every form of R318 and R319: DCR of the seven registers and of M; CY unchanged (the pair H:L by D27, PC wrapping by
D2). -/
def Obligations.DecrementOperand : Prop :=
  (∀ (r : Reg) (s : State), ∃ t, exec (.dcr (.reg r)) s = .next t
    ∧ ((t.regs.get r).toNat + 1) % 256 = (s.regs.get r).toNat ∧ (t.flags.ac = true ↔ (s.regs.get r).toNat % 16 = 0)
    ∧ t.flags.Show (t.regs.get r) ∧ t.flags.cy = s.flags.cy
    ∧ s.SameRegsBut t [r] ∧ t.sp = s.sp ∧ t.pc = s.pc + 1 ∧ s.SameMem t ∧ s.SameSystem t)
    ∧ (∀ s : State, ∃ t, exec .dcrM s = .next t
      ∧ ((t.read (s.pair .hl)).toNat + 1) % 256 = (s.read (s.pair .hl)).toNat
      ∧ (t.flags.ac = true ↔ (s.read (s.pair .hl)).toNat % 16 = 0)
      ∧ t.flags.Show (t.read (s.pair .hl)) ∧ t.flags.cy = s.flags.cy
      ∧ s.SameMemBut t [s.pair .hl] ∧ t.regs = s.regs ∧ t.sp = s.sp ∧ t.pc = s.pc + 1 ∧ s.SameSystem t)

/-- R320, R321: INX and DCX of the four pairs, wrapping; no flag (D26). -/
def Obligations.PairIncrementAndDecrement : Prop :=
  ∀ (p : Pair) (s : State),
    (∃ t, exec (.inx p) s = .next t ∧ (t.pair p).toNat = ((s.pair p).toNat + 1) % 65536
      ∧ s.SameRegsBut t (pairRegs p) ∧ (p ≠ .sp → t.sp = s.sp) ∧ t.pc = s.pc + 1 ∧ t.flags = s.flags
      ∧ s.SameMem t ∧ s.SameSystem t)
    ∧ (∃ t, exec (.dcx p) s = .next t ∧ ((t.pair p).toNat + 1) % 65536 = (s.pair p).toNat
      ∧ s.SameRegsBut t (pairRegs p) ∧ (p ≠ .sp → t.sp = s.sp) ∧ t.pc = s.pc + 1 ∧ t.flags = s.flags
      ∧ s.SameMem t ∧ s.SameSystem t)

/-- R322: DAD of the four pairs: H:L gets the sum, CY the carry past bit 15, and no other flag changes. -/
def Obligations.DoubleAdd : Prop :=
  ∀ (p : Pair) (s : State), ∃ t, exec (.dad p) s = .next t
    ∧ (t.pair .hl).toNat = ((s.pair .hl).toNat + (s.pair p).toNat) % 65536
    ∧ (t.flags.cy = true ↔ (s.pair .hl).toNat + (s.pair p).toNat > 65535)
    ∧ t.flags.z = s.flags.z ∧ t.flags.s = s.flags.s ∧ t.flags.p = s.flags.p ∧ t.flags.ac = s.flags.ac
    ∧ s.SameRegsBut t [.h, .l] ∧ t.sp = s.sp ∧ t.pc = s.pc + 1 ∧ s.SameMem t ∧ s.SameSystem t

/-- R323, the algorithm of D7: two nibble adjustments, CY never cleared, AC unchanged. -/
def Obligations.DecimalAdjust : Prop :=
  ∀ s : State, ∃ t, exec .daa s = .next t
    ∧ (∃ low sum : Nat, low = s.regs.a.toNat + (if s.regs.a.toNat % 16 > 9 ∨ s.flags.ac = true then 6 else 0)
      ∧ sum = low + (if low / 16 > 9 ∨ s.flags.cy = true then 96 else 0)
      ∧ t.regs.a.toNat = sum % 256 ∧ (t.flags.cy = true ↔ s.flags.cy = true ∨ sum > 255))
    ∧ t.flags.ac = s.flags.ac ∧ t.flags.Show t.regs.a
    ∧ s.SameRegsBut t [.a] ∧ t.sp = s.sp ∧ t.pc = s.pc + 1 ∧ s.SameMem t ∧ s.SameSystem t

/-- R300, R323 (D7): DAA after ADI of two packed decimal numbers gives their decimal sum, with the hundred in CY. -/
def Obligations.DecimalAdditionIsDecimal : Prop :=
  ∀ (s : State) (x y : Nat), x < 100 → y < 100 → s.regs.a = BitVec.ofNat 8 (x / 10 * 16 + x % 10) →
    ∃ t u, exec (.adi (BitVec.ofNat 8 (y / 10 * 16 + y % 10))) s = .next t ∧ exec .daa t = .next u
      ∧ u.regs.a = BitVec.ofNat 8 ((x + y) % 100 / 10 * 16 + (x + y) % 10) ∧ (u.flags.cy = true ↔ x + y ≥ 100)

/-- R414, R415, R416 (flags D26): CMA, CMC, STC. -/
def Obligations.ComplementAndCarry : Prop :=
  ∀ s : State,
    (∃ t, exec .cma s = .next t ∧ t.regs.a.toNat = 255 - s.regs.a.toNat ∧ s.SameRegsBut t [.a] ∧ t.flags = s.flags
      ∧ t.sp = s.sp ∧ t.pc = s.pc + 1 ∧ s.SameMem t ∧ s.SameSystem t)
    ∧ (∃ t, exec .cmc s = .next t ∧ t.flags = { s.flags with cy := !s.flags.cy } ∧ t.regs = s.regs
      ∧ t.sp = s.sp ∧ t.pc = s.pc + 1 ∧ s.SameMem t ∧ s.SameSystem t)
    ∧ (∃ t, exec .stc s = .next t ∧ t.flags = { s.flags with cy := true } ∧ t.regs = s.regs
      ∧ t.sp = s.sp ∧ t.pc = s.pc + 1 ∧ s.SameMem t ∧ s.SameSystem t)

/-- What a rotate leaves: A as a number, CY, no other flag (44_rotate.md). -/
def Sys2Proof.Machine.RotatesA (i : Instr) (s : State) (a : Nat) (cy : Prop) : Prop :=
  ∃ t, exec i s = .next t ∧ t.regs.a.toNat = a ∧ (t.flags.cy = true ↔ cy)
    ∧ t.flags.z = s.flags.z ∧ t.flags.s = s.flags.s ∧ t.flags.p = s.flags.p ∧ t.flags.ac = s.flags.ac
    ∧ s.SameRegsBut t [.a] ∧ t.sp = s.sp ∧ t.pc = s.pc + 1 ∧ s.SameMem t ∧ s.SameSystem t

/-- R500 to R503: RLC, RRC, RAL, RAR. That a rotate acts on A only, by one bit, is general knowledge (G16). -/
def Obligations.Rotates : Prop :=
  ∀ s : State,
    RotatesA .rlc s (s.regs.a.toNat * 2 % 256 + s.regs.a.toNat / 128) (s.regs.a.toNat ≥ 128)
      ∧ RotatesA .rrc s (s.regs.a.toNat / 2 + s.regs.a.toNat % 2 * 128) (s.regs.a.toNat % 2 = 1)
      ∧ RotatesA .ral s (s.regs.a.toNat * 2 % 256 + s.flags.cy.toNat) (s.regs.a.toNat ≥ 128)
      ∧ RotatesA .rar s (s.regs.a.toNat / 2 + s.flags.cy.toNat * 128) (s.regs.a.toNat % 2 = 1)

/-! ### Control transfer -/

/-- What a transfer that stores nothing leaves: PC and SP as given, all else as before. -/
def Sys2Proof.Machine.GoesTo (i : Instr) (s : State) (pc sp : Word) : Prop :=
  ∃ t, exec i s = .next t ∧ t.pc = pc ∧ t.sp = sp ∧ t.regs = s.regs ∧ t.flags = s.flags ∧ s.SameMem t ∧ s.SameSystem t

/-- What a call leaves (R603): the return address on the stack, low byte at SP - 2, high byte at SP - 1. -/
def Sys2Proof.Machine.CallsTo (i : Instr) (s : State) (pc ret : Word) : Prop :=
  ∃ t, exec i s = .next t ∧ t.pc = pc ∧ t.sp = s.sp - 2 ∧ t.read (s.sp - 1) = hi8 ret ∧ t.read (s.sp - 2) = lo8 ret
    ∧ s.SameMemBut t [s.sp - 1, s.sp - 2] ∧ t.regs = s.regs ∧ t.flags = s.flags ∧ s.SameSystem t

/-- R600: the flag each condition reads. The numbering and suffixes are general knowledge (D25). -/
def Obligations.ConditionsReadOneFlag : Prop :=
  ∀ (f : Flags) (cond : Cond), (f.holds cond = true) ↔
    (cond = .nz ∧ f.z = false) ∨ (cond = .z ∧ f.z = true) ∨ (cond = .nc ∧ f.cy = false) ∨ (cond = .c ∧ f.cy = true)
      ∨ (cond = .po ∧ f.p = false) ∨ (cond = .pe ∧ f.p = true) ∨ (cond = .p ∧ f.s = false) ∨ (cond = .m ∧ f.s = true)

/-- R601, R602, R608: JMP, the eight conditional jumps taken and not taken, PCHL (condition codes D25). -/
def Obligations.Jumps : Prop :=
  ∀ s : State, (∀ a, GoesTo (.jmp a) s a s.sp) ∧ GoesTo .pchl s (s.pair .hl) s.sp
    ∧ (∀ a cond, (s.flags.holds cond = true → GoesTo (.jcc a cond) s a s.sp)
      ∧ (s.flags.holds cond = false → GoesTo (.jcc a cond) s (s.pc + 3) s.sp))

/-- R603, R604, R607: CALL, the eight conditional calls taken and not taken, RST 0 to 7 (condition codes D25). -/
def Obligations.Calls : Prop :=
  ∀ s : State, (∀ a, CallsTo (.call a) s a (s.pc + 3))
    ∧ (∀ a cond, (s.flags.holds cond = true → CallsTo (.ccc a cond) s a (s.pc + 3))
      ∧ (s.flags.holds cond = false → GoesTo (.ccc a cond) s (s.pc + 3) s.sp))
    ∧ (∀ n : BitVec 3, CallsTo (.rst n) s (BitVec.ofNat 16 (8 * n.toNat)) (s.pc + 1))

/-- R605, R606: RET, the eight conditional returns taken and not taken (condition codes D25). -/
def Obligations.Returns : Prop :=
  ∀ s : State, GoesTo .ret s (cat16 (s.read (s.sp + 1)) (s.read s.sp)) (s.sp + 2)
    ∧ (∀ cond, (s.flags.holds cond = true → GoesTo (.rcc cond) s (cat16 (s.read (s.sp + 1)) (s.read s.sp)) (s.sp + 2))
      ∧ (s.flags.holds cond = false → GoesTo (.rcc cond) s (s.pc + 1) s.sp))

/-- R605 and the source's property P3: RET after CALL returns to the instruction after the CALL with SP as before; and the same
of RST (R607). -/
def Obligations.CallThenReturn : Prop :=
  ∀ s : State,
    (∀ a, ∃ t u, exec (.call a) s = .next t ∧ exec .ret t = .next u ∧ u.pc = s.pc + 3 ∧ u.sp = s.sp
      ∧ u.regs = s.regs ∧ u.flags = s.flags)
    ∧ (∀ n, ∃ t u, exec (.rst n) s = .next t ∧ exec .ret t = .next u ∧ u.pc = s.pc + 1 ∧ u.sp = s.sp
      ∧ u.regs = s.regs ∧ u.flags = s.flags)

/-! ### Ports, interrupts, machine control -/

/-- R811: what IN reads, at every port; the read changes no port state. PORT0_VALUE is open (D15, log 2): the claim holds for
every value of it. PC wraps by D2. -/
def Obligations.PortReads : Prop :=
  ∀ (p : Byte) (s : State), ∃ t, exec (.inp p) s = .next t
    ∧ (p = 0 → t.regs.a = Config.port0Value) ∧ (p = 1 → t.regs.a = s.ports.inPort1)
    ∧ (p = 3 → t.regs.a = s.ports.shiftResult) ∧ (p ≠ 0 → p ≠ 1 → p ≠ 3 → t.regs.a = 0)
    ∧ t.ports = s.ports ∧ s.SameRegsBut t [.a] ∧ t.sp = s.sp ∧ t.pc = s.pc + 2 ∧ t.flags = s.flags
    ∧ s.SameMem t ∧ s.SameSystem t

/-- R701, R812, R814, R815, and R813 for what the shift register then shows: OUT at every port (formulas D14). -/
def Obligations.PortWrites : Prop :=
  (∀ (p : Byte) (s : State), ∃ t, exec (.out p) s = .next t
    ∧ (p = 2 → t.ports.shiftOffset.toNat = s.regs.a.toNat % 8 ∧ t.ports.shift0 = s.ports.shift0 ∧ t.ports.shift1 = s.ports.shift1)
    ∧ (p = 4 → t.ports.shift0 = s.ports.shift1 ∧ t.ports.shift1 = s.regs.a ∧ t.ports.shiftOffset = s.ports.shiftOffset)
    ∧ (p ≠ 2 → p ≠ 4 → t.ports = s.ports) ∧ t.ports.inPort1 = s.ports.inPort1
    ∧ t.regs = s.regs ∧ t.sp = s.sp ∧ t.pc = s.pc + 2 ∧ t.flags = s.flags ∧ s.SameMem t
    ∧ t.ie = s.ie ∧ t.halted = s.halted ∧ t.fault = s.fault ∧ t.driver = s.driver)
    ∧ (∀ d : PortState, d.shiftResult.toNat = (d.shift1.toNat * 256 + d.shift0.toNat) / 2 ^ (8 - d.shiftOffset.toNat) % 256)

/-- R702 to R705: EI, DI, NOP, HLT. EI takes effect at the end of its own step (D12), so a `raise` right after it is delivered;
HALTED is the spec's own latch (D8). -/
def Obligations.MachineControl : Prop :=
  ∀ s : State,
    exec .ei s = .next { s with ie := true, pc := s.pc + 1 } ∧ exec .di s = .next { s with ie := false, pc := s.pc + 1 }
      ∧ exec .nop s = .next { s with pc := s.pc + 1 } ∧ exec .hlt s = .next { s with halted := true, pc := s.pc + 1 }
      ∧ (s.fault = none → ∀ v ≤ 7, ∃ t u, exec .ei s = .next t ∧ raise v t = .next u ∧ u.pc = BitVec.ofNat 16 (8 * v)
          ∧ u.top = s.pc + 1)

/-- R804: a `raise` with IE false changes no state at all; with IE true and no fault it is delivered, whatever else the state
holds: "IE (10_state.md rule R32) is the only mask". -/
def Obligations.InterruptEnableIsTheOnlyMask : Prop :=
  ∀ (s : State) (v : Nat), v ≤ 7 →
    (s.ie = false → raise v s = .next s)
      ∧ (s.ie = true → s.fault = none → ∃ t, raise v s = .next t ∧ t.pc = BitVec.ofNat 16 (8 * v) ∧ t.ie = false)

/-- R806, R807: interrupt entry, its frame, and the refusal of a vector outside 0..7 (D8 for HALTED, D11 for the range). -/
def Obligations.InterruptEntry : Prop :=
  (∀ (s : State) (v : Nat), v ≤ 7 → s.fault = none → s.ie = true → ∃ t, raise v s = .next t
    ∧ t.pc = BitVec.ofNat 16 (8 * v) ∧ t.sp = s.sp - 2 ∧ t.read (s.sp - 1) = hi8 s.pc ∧ t.read (s.sp - 2) = lo8 s.pc
    ∧ t.ie = false ∧ t.halted = false ∧ s.SameMemBut t [s.sp - 1, s.sp - 2] ∧ t.regs = s.regs ∧ t.flags = s.flags
    ∧ t.fault = s.fault ∧ t.ports = s.ports ∧ t.driver = s.driver)
    ∧ (∀ (s : State) (v : Nat), v > 7 → raise v s = .refused (.vectorOutOfRange v))

/-- R806, R808, R809 and the source's property P8: after a delivered interrupt a second `raise` is dropped, and the handler's RET
resumes the interrupted program with registers, flags and SP as they were. -/
def Obligations.InterruptThenReturn : Prop :=
  ∀ (s t : State) (v : Nat), s.fault = none → s.ie = true → raise v s = .next t →
    (∀ w ≤ 7, raise w t = .next t)
      ∧ ∃ u, exec .ret t = .next u ∧ u.pc = s.pc ∧ u.sp = s.sp ∧ u.regs = s.regs ∧ u.flags = s.flags ∧ u.halted = false

/-! ### The driver and the loader -/

/-- R113: the count a step returns is that of its opcode, the same at every execution of it, and no effect of the step depends on
the table. -/
def Obligations.CyclesAreOfTheOpcode : Prop :=
  ∀ (P : Config.Params) (s t : State) (n : Nat), s.halted = false → timedStep P s = .next (t, n) →
    n = P.cycles (s.read s.pc) ∧ ∀ Q : Config.Params, timedStep Q s = .next (t, Q.cycles (s.read s.pc))

/-- R818 (details D19) and R819, with positive counts (R908): a call of `run_frame` steps from a `cycle_acc` of 0 until the added
counts first reach FRAME_BUDGET. Then, with IE true, the interrupt of `next_vector` is delivered and `next_vector` toggles; with IE
false nothing more happens and `next_vector` is kept. Or a step before the budget is reached fetches an illegal opcode: the call
ends there, with FAULT recorded and nothing else changed (R801, D4, D34; the fault as an outcome is log 3). `cycle_acc` is left
at the sum. -/
def Obligations.RunFrameEnds : Prop :=
  ∀ (P : Config.Params) (s : State), (∀ op, op ∉ illegalOpcodes → 0 < P.cycles op) → 0 < P.haltIdleCycles → s.fault = none →
    ∃ (n : Nat) (u : State), Sys2Proof.core.run n s = .next u ∧ (∀ k < n, cycleSum P k s < P.frameBudget)
      ∧ ((P.frameBudget ≤ cycleSum P n s ∧ ∃ t, runFrame P s = .done t ∧ t.fault = none ∧ t.driver.cycleAcc = cycleSum P n s
          ∧ (u.ie = true → t.driver.nextVector = s.driver.nextVector.toggle
            ∧ raise s.driver.nextVector.number u = .next (t.withDriver s.driver)
            ∧ t.pc = BitVec.ofNat 16 (8 * s.driver.nextVector.number) ∧ t.top = u.pc ∧ t.ie = false)
          ∧ (u.ie = false → t.driver.nextVector = s.driver.nextVector ∧ t.withDriver s.driver = u))
        ∨ (cycleSum P n s < P.frameBudget ∧ u.halted = false ∧ u.read u.pc ∈ illegalOpcodes
          ∧ ∃ t, runFrame P s = .faulted t (.unimplementedInstruction (u.read u.pc) u.pc)
            ∧ t.withDriver s.driver = { u with fault := some ⟨u.read u.pc, u.pc⟩ }
            ∧ t.driver = ⟨cycleSum P n s, s.driver.nextVector⟩))

/-- R902: an image that fits is loaded byte for byte from its offset on, and changes nothing else. What the bytes outside it hold
is the launch argument's (D17). -/
def Obligations.LoaderStoresTheImage : Prop :=
  ∀ (s : State) (base : Nat) (image : List Byte), base + image.length ≤ 65536 → ∃ t, s.loadImage base image = .next t
    ∧ (∀ (k : Nat) (h : k < image.length), t.read (BitVec.ofNat 16 (base + k)) = image[k])
    ∧ (∀ a : Word, (a.toNat < base ∨ base + image.length ≤ a.toNat) → t.read a = s.read a)
    ∧ { t with mem := s.mem } = s
end

