-- ==== Sys2Proof/Laws/Memory.lean ====
section
/-! SUPPORT. The laws of memory: what a read gives after a store, that a store keeps the canonical form, and that two canonical
memories with the same bytes are the same list. -/

namespace Sys2Proof.Machine

/-! ### Reads -/

@[simp] theorem Memory.read_nil (a : Nat) : Memory.read [] a = Memory.unlisted := rfl

theorem Memory.read_erase_same (m : Memory) (a : Nat) : (m.erase a).read a = Memory.unlisted := by
  induction m with
  | nil => rfl
  | cons c m ih =>
    obtain ⟨k, v⟩ := c
    by_cases hk : k = a
    · simpa [Memory.erase, hk] using ih
    · simpa [Memory.erase, Memory.read, hk] using ih

theorem Memory.read_erase_other (m : Memory) {a b : Nat} (h : b ≠ a) : (m.erase a).read b = m.read b := by
  induction m with
  | nil => rfl
  | cons c m ih =>
    obtain ⟨k, v⟩ := c
    by_cases hk : k = a
    · subst hk
      simpa [Memory.erase, Memory.read, Ne.symm h] using ih
    · simp only [Memory.erase, if_neg hk, Memory.read, ih]

theorem Memory.read_insert_same {m : Memory} {a : Nat} (v : Byte) (h : ∀ c ∈ m, c.1 ≠ a) :
    (m.insert a v).read a = v := by
  induction m with
  | nil => simp [Memory.insert, Memory.read]
  | cons c m ih =>
    obtain ⟨k, w⟩ := c
    have hk : k ≠ a := h (k, w) List.mem_cons_self
    have hm : ∀ c ∈ m, c.1 ≠ a := fun c hc => h c (List.mem_cons_of_mem _ hc)
    by_cases hlt : a < k
    · simp [Memory.insert, Memory.read, hlt]
    · simp [Memory.insert, Memory.read, hlt, hk, ih hm]

theorem Memory.read_insert_other (m : Memory) {a b : Nat} (v : Byte) (h : b ≠ a) :
    (m.insert a v).read b = m.read b := by
  induction m with
  | nil => simp [Memory.insert, Memory.read, Ne.symm h]
  | cons c m ih =>
    obtain ⟨k, w⟩ := c
    by_cases hlt : a < k
    · simp [Memory.insert, Memory.read, hlt, Ne.symm h]
    · simp only [Memory.insert, if_neg hlt, Memory.read, ih]

theorem Memory.not_mem_erase (m : Memory) (a : Nat) : ∀ c ∈ m.erase a, c.1 ≠ a := by
  induction m with
  | nil => simp [Memory.erase]
  | cons c m ih =>
    obtain ⟨k, v⟩ := c
    by_cases hk : k = a
    · simpa [Memory.erase, hk] using ih
    · simp only [Memory.erase, if_neg hk, List.mem_cons]
      rintro c (rfl | hc)
      · exact hk
      · exact ih c hc

/-- 20_memory.md R51: a read after a store to the same address gives the byte stored. -/
@[simp] theorem Memory.read_write_same (m : Memory) (a : Nat) (v : Byte) : (m.write a v).read a = v := by
  by_cases hv : v = Memory.unlisted
  · simp [Memory.write, hv, Memory.read_erase_same]
  · simp [Memory.write, hv, Memory.read_insert_same v (Memory.not_mem_erase m a)]

/-- 20_memory.md R51: a store leaves every other address alone. -/
theorem Memory.read_write_other (m : Memory) {a b : Nat} (v : Byte) (h : b ≠ a) :
    (m.write a v).read b = m.read b := by
  by_cases hv : v = Memory.unlisted
  · simp [Memory.write, hv, Memory.read_erase_other m h]
  · simp [Memory.write, hv, Memory.read_insert_other _ v h, Memory.read_erase_other m h]

/-! ### The canonical form -/

theorem Memory.wfFrom_cons {lo k : Nat} {v : Byte} {m : Memory} :
    Memory.wfFrom lo ((k, v) :: m) = true ↔
      lo ≤ k ∧ k < 65536 ∧ v ≠ Memory.unlisted ∧ Memory.wfFrom (k + 1) m = true := by
  simp [Memory.wfFrom, and_assoc]

theorem Memory.wfFrom_mono {lo lo' : Nat} {m : Memory} (h : lo' ≤ lo) (hm : Memory.wfFrom lo m = true) :
    Memory.wfFrom lo' m = true := by
  cases m with
  | nil => rfl
  | cons c m =>
    obtain ⟨k, v⟩ := c
    rw [Memory.wfFrom_cons] at hm ⊢
    exact ⟨h.trans hm.1, hm.2⟩

theorem Memory.wfFrom_erase {lo : Nat} {m : Memory} (a : Nat) (hm : Memory.wfFrom lo m = true) :
    Memory.wfFrom lo (m.erase a) = true := by
  induction m generalizing lo with
  | nil => rfl
  | cons c m ih =>
    obtain ⟨k, v⟩ := c
    rw [Memory.wfFrom_cons] at hm
    obtain ⟨hlo, hk, hv, hm⟩ := hm
    by_cases hka : k = a
    · simp only [Memory.erase, if_pos hka]
      exact Memory.wfFrom_mono (by omega) (ih hm)
    · simp only [Memory.erase, if_neg hka]
      exact Memory.wfFrom_cons.2 ⟨hlo, hk, hv, ih hm⟩

theorem Memory.wfFrom_insert {lo a : Nat} {v : Byte} {m : Memory} (hlo : lo ≤ a) (ha : a < 65536)
    (hv : v ≠ Memory.unlisted) (hm : Memory.wfFrom lo m = true) (hne : ∀ c ∈ m, c.1 ≠ a) :
    Memory.wfFrom lo (m.insert a v) = true := by
  induction m generalizing lo with
  | nil => exact Memory.wfFrom_cons.2 ⟨hlo, ha, hv, rfl⟩
  | cons c m ih =>
    obtain ⟨k, w⟩ := c
    rw [Memory.wfFrom_cons] at hm
    obtain ⟨hlk, hk, hw, hm⟩ := hm
    have hka : k ≠ a := hne (k, w) List.mem_cons_self
    by_cases hlt : a < k
    · simp only [Memory.insert, if_pos hlt]
      exact Memory.wfFrom_cons.2 ⟨hlo, ha, hv, Memory.wfFrom_cons.2 ⟨by omega, hk, hw, hm⟩⟩
    · simp only [Memory.insert, if_neg hlt]
      exact Memory.wfFrom_cons.2
        ⟨hlk, hk, hw, ih (by omega) hm fun c hc => hne c (List.mem_cons_of_mem _ hc)⟩

/-- Every store keeps the canonical form. -/
theorem Memory.wf_write {m : Memory} {a : Nat} (v : Byte) (ha : a < 65536) (hm : m.wf = true) :
    (m.write a v).wf = true := by
  by_cases hv : v = Memory.unlisted
  · simpa [Memory.write, hv, Memory.wf] using Memory.wfFrom_erase a hm
  · simpa [Memory.write, hv, Memory.wf] using
      Memory.wfFrom_insert (Nat.zero_le a) ha hv (Memory.wfFrom_erase a hm) (Memory.not_mem_erase m a)

@[simp] theorem Memory.wf_nil : Memory.wf [] = true := rfl

theorem Memory.read_below {lo a : Nat} {m : Memory} (hm : Memory.wfFrom lo m = true) (ha : a < lo) :
    m.read a = Memory.unlisted := by
  induction m generalizing lo with
  | nil => rfl
  | cons c m ih =>
    obtain ⟨k, v⟩ := c
    rw [Memory.wfFrom_cons] at hm
    have hk : k ≠ a := by omega
    simp only [Memory.read, if_neg hk]
    exact ih hm.2.2.2 (by omega)

theorem Memory.ext_wfFrom {lo : Nat} {m n : Memory} (hm : Memory.wfFrom lo m = true) (hn : Memory.wfFrom lo n = true)
    (h : ∀ a, a < 65536 → m.read a = n.read a) : m = n := by
  induction m generalizing lo n with
  | nil =>
    cases n with
    | nil => rfl
    | cons c n =>
      obtain ⟨k, v⟩ := c
      rw [Memory.wfFrom_cons] at hn
      have := h k hn.2.1
      simp [Memory.read] at this
      exact absurd this.symm hn.2.2.1
  | cons c m ih =>
    obtain ⟨k, v⟩ := c
    cases n with
    | nil =>
      rw [Memory.wfFrom_cons] at hm
      have := h k hm.2.1
      simp [Memory.read] at this
      exact absurd this hm.2.2.1
    | cons c' n =>
      obtain ⟨k', v'⟩ := c'
      have hm' := Memory.wfFrom_cons.1 hm
      have hn' := Memory.wfFrom_cons.1 hn
      have hkk : k = k' := by
        rcases Nat.lt_trichotomy k k' with hlt | heq | hgt
        · have h1 := h k hm'.2.1
          have h2 : Memory.read ((k', v') :: n) k = Memory.unlisted :=
            Memory.read_below (lo := k') (Memory.wfFrom_cons.2 ⟨le_refl _, hn'.2⟩) hlt
          rw [h2] at h1
          simp [Memory.read] at h1
          exact absurd h1 hm'.2.2.1
        · exact heq
        · have h1 := h k' hn'.2.1
          have h2 : Memory.read ((k, v) :: m) k' = Memory.unlisted :=
            Memory.read_below (lo := k) (Memory.wfFrom_cons.2 ⟨le_refl _, hm'.2⟩) hgt
          rw [h2] at h1
          simp [Memory.read] at h1
          exact absurd h1.symm hn'.2.2.1
      subst hkk
      have hvv : v = v' := by simpa [Memory.read] using h k hm'.2.1
      subst hvv
      congr 1
      refine ih hm'.2.2.2 hn'.2.2.2 fun a ha => ?_
      by_cases hka : k = a
      · subst hka
        rw [Memory.read_below hm'.2.2.2 (Nat.lt_succ_self k), Memory.read_below hn'.2.2.2 (Nat.lt_succ_self k)]
      · simpa [Memory.read, hka] using h a ha

/-- Two canonical memories with the same bytes are the same list. -/
theorem Memory.ext_wf {m n : Memory} (hm : m.wf = true) (hn : n.wf = true)
    (h : ∀ a, a < 65536 → m.read a = n.read a) : m = n :=
  Memory.ext_wfFrom hm hn h

end Sys2Proof.Machine
end

