-- ==== Sys2Proof/Laws/State.lean ====
section
/-! SUPPORT. One lemma for each field and each state update, so that no later proof unfolds an update. -/

namespace Sys2Proof.Machine

/-! ### `State.write` -/

@[simp] theorem State.write_regs (s : State) (a : Word) (v : Byte) : (s.write a v).regs = s.regs := rfl
@[simp] theorem State.write_sp (s : State) (a : Word) (v : Byte) : (s.write a v).sp = s.sp := rfl
@[simp] theorem State.write_pc (s : State) (a : Word) (v : Byte) : (s.write a v).pc = s.pc := rfl
@[simp] theorem State.write_flags (s : State) (a : Word) (v : Byte) : (s.write a v).flags = s.flags := rfl
@[simp] theorem State.write_ie (s : State) (a : Word) (v : Byte) : (s.write a v).ie = s.ie := rfl
@[simp] theorem State.write_halted (s : State) (a : Word) (v : Byte) : (s.write a v).halted = s.halted := rfl
@[simp] theorem State.write_fault (s : State) (a : Word) (v : Byte) : (s.write a v).fault = s.fault := rfl
@[simp] theorem State.write_ports (s : State) (a : Word) (v : Byte) : (s.write a v).ports = s.ports := rfl
@[simp] theorem State.write_mem (s : State) (a : Word) (v : Byte) : (s.write a v).mem = s.mem.write a.toNat v := rfl
@[simp] theorem State.write_driver (s : State) (a : Word) (v : Byte) : (s.write a v).driver = s.driver := rfl

/-! ### `State.writeWord` -/

@[simp] theorem State.writeWord_regs (s : State) (a v : Word) : (s.writeWord a v).regs = s.regs := rfl
@[simp] theorem State.writeWord_sp (s : State) (a v : Word) : (s.writeWord a v).sp = s.sp := rfl
@[simp] theorem State.writeWord_pc (s : State) (a v : Word) : (s.writeWord a v).pc = s.pc := rfl
@[simp] theorem State.writeWord_flags (s : State) (a v : Word) : (s.writeWord a v).flags = s.flags := rfl
@[simp] theorem State.writeWord_ie (s : State) (a v : Word) : (s.writeWord a v).ie = s.ie := rfl
@[simp] theorem State.writeWord_halted (s : State) (a v : Word) : (s.writeWord a v).halted = s.halted := rfl
@[simp] theorem State.writeWord_fault (s : State) (a v : Word) : (s.writeWord a v).fault = s.fault := rfl
@[simp] theorem State.writeWord_ports (s : State) (a v : Word) : (s.writeWord a v).ports = s.ports := rfl
@[simp] theorem State.writeWord_mem (s : State) (a v : Word) : (s.writeWord a v).mem = (s.mem.write a.toNat (lo8 v)).write (a + 1).toNat (hi8 v) := rfl
@[simp] theorem State.writeWord_driver (s : State) (a v : Word) : (s.writeWord a v).driver = s.driver := rfl

/-! ### `State.push` -/

@[simp] theorem State.push_regs (s : State) (v : Word) : (s.push v).regs = s.regs := rfl
@[simp] theorem State.push_sp (s : State) (v : Word) : (s.push v).sp = s.sp - 2 := rfl
@[simp] theorem State.push_pc (s : State) (v : Word) : (s.push v).pc = s.pc := rfl
@[simp] theorem State.push_flags (s : State) (v : Word) : (s.push v).flags = s.flags := rfl
@[simp] theorem State.push_ie (s : State) (v : Word) : (s.push v).ie = s.ie := rfl
@[simp] theorem State.push_halted (s : State) (v : Word) : (s.push v).halted = s.halted := rfl
@[simp] theorem State.push_fault (s : State) (v : Word) : (s.push v).fault = s.fault := rfl
@[simp] theorem State.push_ports (s : State) (v : Word) : (s.push v).ports = s.ports := rfl
@[simp] theorem State.push_mem (s : State) (v : Word) : (s.push v).mem = (s.mem.write (s.sp - 1).toNat (hi8 v)).write (s.sp - 2).toNat (lo8 v) := rfl
@[simp] theorem State.push_driver (s : State) (v : Word) : (s.push v).driver = s.driver := rfl

/-! ### `State.dropTop` -/

@[simp] theorem State.dropTop_regs (s : State) : (s.dropTop).regs = s.regs := rfl
@[simp] theorem State.dropTop_sp (s : State) : (s.dropTop).sp = s.sp + 2 := rfl
@[simp] theorem State.dropTop_pc (s : State) : (s.dropTop).pc = s.pc := rfl
@[simp] theorem State.dropTop_flags (s : State) : (s.dropTop).flags = s.flags := rfl
@[simp] theorem State.dropTop_ie (s : State) : (s.dropTop).ie = s.ie := rfl
@[simp] theorem State.dropTop_halted (s : State) : (s.dropTop).halted = s.halted := rfl
@[simp] theorem State.dropTop_fault (s : State) : (s.dropTop).fault = s.fault := rfl
@[simp] theorem State.dropTop_ports (s : State) : (s.dropTop).ports = s.ports := rfl
@[simp] theorem State.dropTop_mem (s : State) : (s.dropTop).mem = s.mem := rfl
@[simp] theorem State.dropTop_driver (s : State) : (s.dropTop).driver = s.driver := rfl

/-! ### `State.advance` -/

@[simp] theorem State.advance_regs (s : State) (len : Word) : (s.advance len).regs = s.regs := rfl
@[simp] theorem State.advance_sp (s : State) (len : Word) : (s.advance len).sp = s.sp := rfl
@[simp] theorem State.advance_pc (s : State) (len : Word) : (s.advance len).pc = s.pc + len := rfl
@[simp] theorem State.advance_flags (s : State) (len : Word) : (s.advance len).flags = s.flags := rfl
@[simp] theorem State.advance_ie (s : State) (len : Word) : (s.advance len).ie = s.ie := rfl
@[simp] theorem State.advance_halted (s : State) (len : Word) : (s.advance len).halted = s.halted := rfl
@[simp] theorem State.advance_fault (s : State) (len : Word) : (s.advance len).fault = s.fault := rfl
@[simp] theorem State.advance_ports (s : State) (len : Word) : (s.advance len).ports = s.ports := rfl
@[simp] theorem State.advance_mem (s : State) (len : Word) : (s.advance len).mem = s.mem := rfl
@[simp] theorem State.advance_driver (s : State) (len : Word) : (s.advance len).driver = s.driver := rfl

/-! ### `State.jump` -/

@[simp] theorem State.jump_regs (s : State) (target : Word) : (s.jump target).regs = s.regs := rfl
@[simp] theorem State.jump_sp (s : State) (target : Word) : (s.jump target).sp = s.sp := rfl
@[simp] theorem State.jump_pc (s : State) (target : Word) : (s.jump target).pc = target := rfl
@[simp] theorem State.jump_flags (s : State) (target : Word) : (s.jump target).flags = s.flags := rfl
@[simp] theorem State.jump_ie (s : State) (target : Word) : (s.jump target).ie = s.ie := rfl
@[simp] theorem State.jump_halted (s : State) (target : Word) : (s.jump target).halted = s.halted := rfl
@[simp] theorem State.jump_fault (s : State) (target : Word) : (s.jump target).fault = s.fault := rfl
@[simp] theorem State.jump_ports (s : State) (target : Word) : (s.jump target).ports = s.ports := rfl
@[simp] theorem State.jump_mem (s : State) (target : Word) : (s.jump target).mem = s.mem := rfl
@[simp] theorem State.jump_driver (s : State) (target : Word) : (s.jump target).driver = s.driver := rfl

/-! ### `State.setReg` -/

@[simp] theorem State.setReg_regs (s : State) (r : Reg) (v : Byte) : (s.setReg r v).regs = s.regs.set r v := rfl
@[simp] theorem State.setReg_sp (s : State) (r : Reg) (v : Byte) : (s.setReg r v).sp = s.sp := rfl
@[simp] theorem State.setReg_pc (s : State) (r : Reg) (v : Byte) : (s.setReg r v).pc = s.pc := rfl
@[simp] theorem State.setReg_flags (s : State) (r : Reg) (v : Byte) : (s.setReg r v).flags = s.flags := rfl
@[simp] theorem State.setReg_ie (s : State) (r : Reg) (v : Byte) : (s.setReg r v).ie = s.ie := rfl
@[simp] theorem State.setReg_halted (s : State) (r : Reg) (v : Byte) : (s.setReg r v).halted = s.halted := rfl
@[simp] theorem State.setReg_fault (s : State) (r : Reg) (v : Byte) : (s.setReg r v).fault = s.fault := rfl
@[simp] theorem State.setReg_ports (s : State) (r : Reg) (v : Byte) : (s.setReg r v).ports = s.ports := rfl
@[simp] theorem State.setReg_mem (s : State) (r : Reg) (v : Byte) : (s.setReg r v).mem = s.mem := rfl
@[simp] theorem State.setReg_driver (s : State) (r : Reg) (v : Byte) : (s.setReg r v).driver = s.driver := rfl

/-! ### `State.interruptEntry` -/

@[simp] theorem State.interruptEntry_regs (s : State) (n : Nat) : (s.interruptEntry n).regs = s.regs := rfl
@[simp] theorem State.interruptEntry_sp (s : State) (n : Nat) : (s.interruptEntry n).sp = s.sp - 2 := rfl
@[simp] theorem State.interruptEntry_pc (s : State) (n : Nat) : (s.interruptEntry n).pc = vectorAddress n := rfl
@[simp] theorem State.interruptEntry_flags (s : State) (n : Nat) : (s.interruptEntry n).flags = s.flags := rfl
@[simp] theorem State.interruptEntry_ie (s : State) (n : Nat) : (s.interruptEntry n).ie = false := rfl
@[simp] theorem State.interruptEntry_halted (s : State) (n : Nat) : (s.interruptEntry n).halted = false := rfl
@[simp] theorem State.interruptEntry_fault (s : State) (n : Nat) : (s.interruptEntry n).fault = s.fault := rfl
@[simp] theorem State.interruptEntry_ports (s : State) (n : Nat) : (s.interruptEntry n).ports = s.ports := rfl
@[simp] theorem State.interruptEntry_mem (s : State) (n : Nat) : (s.interruptEntry n).mem = (s.mem.write (s.sp - 1).toNat (hi8 s.pc)).write (s.sp - 2).toNat (lo8 s.pc) := rfl
@[simp] theorem State.interruptEntry_driver (s : State) (n : Nat) : (s.interruptEntry n).driver = s.driver := rfl

/-! ### `State.returnFromStack` -/

@[simp] theorem State.returnFromStack_regs (s : State) : (s.returnFromStack).regs = s.regs := rfl
@[simp] theorem State.returnFromStack_sp (s : State) : (s.returnFromStack).sp = s.sp + 2 := rfl
@[simp] theorem State.returnFromStack_pc (s : State) : (s.returnFromStack).pc = s.top := rfl
@[simp] theorem State.returnFromStack_flags (s : State) : (s.returnFromStack).flags = s.flags := rfl
@[simp] theorem State.returnFromStack_ie (s : State) : (s.returnFromStack).ie = s.ie := rfl
@[simp] theorem State.returnFromStack_halted (s : State) : (s.returnFromStack).halted = s.halted := rfl
@[simp] theorem State.returnFromStack_fault (s : State) : (s.returnFromStack).fault = s.fault := rfl
@[simp] theorem State.returnFromStack_ports (s : State) : (s.returnFromStack).ports = s.ports := rfl
@[simp] theorem State.returnFromStack_mem (s : State) : (s.returnFromStack).mem = s.mem := rfl
@[simp] theorem State.returnFromStack_driver (s : State) : (s.returnFromStack).driver = s.driver := rfl

/-! ### `State.setPair` and `State.setOperand` -/

@[simp] theorem State.setPair_pc (s : State) (p : Pair) (v : Word) : (s.setPair p v).pc = s.pc := by cases p <;> rfl
@[simp] theorem State.setPair_flags (s : State) (p : Pair) (v : Word) : (s.setPair p v).flags = s.flags := by cases p <;> rfl
@[simp] theorem State.setPair_ie (s : State) (p : Pair) (v : Word) : (s.setPair p v).ie = s.ie := by cases p <;> rfl
@[simp] theorem State.setPair_halted (s : State) (p : Pair) (v : Word) : (s.setPair p v).halted = s.halted := by cases p <;> rfl
@[simp] theorem State.setPair_fault (s : State) (p : Pair) (v : Word) : (s.setPair p v).fault = s.fault := by cases p <;> rfl
@[simp] theorem State.setPair_ports (s : State) (p : Pair) (v : Word) : (s.setPair p v).ports = s.ports := by cases p <;> rfl
@[simp] theorem State.setPair_mem (s : State) (p : Pair) (v : Word) : (s.setPair p v).mem = s.mem := by cases p <;> rfl
@[simp] theorem State.setPair_driver (s : State) (p : Pair) (v : Word) : (s.setPair p v).driver = s.driver := by cases p <;> rfl
@[simp] theorem State.setOperand_sp (s : State) (o : Operand) (v : Byte) : (s.setOperand o v).sp = s.sp := by cases o <;> rfl
@[simp] theorem State.setOperand_pc (s : State) (o : Operand) (v : Byte) : (s.setOperand o v).pc = s.pc := by cases o <;> rfl
@[simp] theorem State.setOperand_flags (s : State) (o : Operand) (v : Byte) : (s.setOperand o v).flags = s.flags := by cases o <;> rfl
@[simp] theorem State.setOperand_ie (s : State) (o : Operand) (v : Byte) : (s.setOperand o v).ie = s.ie := by cases o <;> rfl
@[simp] theorem State.setOperand_halted (s : State) (o : Operand) (v : Byte) : (s.setOperand o v).halted = s.halted := by cases o <;> rfl
@[simp] theorem State.setOperand_fault (s : State) (o : Operand) (v : Byte) : (s.setOperand o v).fault = s.fault := by cases o <;> rfl
@[simp] theorem State.setOperand_ports (s : State) (o : Operand) (v : Byte) : (s.setOperand o v).ports = s.ports := by cases o <;> rfl
@[simp] theorem State.setOperand_driver (s : State) (o : Operand) (v : Byte) : (s.setOperand o v).driver = s.driver := by cases o <;> rfl

/-! ### `State.launch` -/

@[simp] theorem State.launch_regs (first : FrameVector) (m : Memory) : (State.launch first m).regs = ⟨0, 0, 0, 0, 0, 0, 0⟩ := rfl
@[simp] theorem State.launch_sp (first : FrameVector) (m : Memory) : (State.launch first m).sp = 0 := rfl
@[simp] theorem State.launch_pc (first : FrameVector) (m : Memory) : (State.launch first m).pc = 0 := rfl
@[simp] theorem State.launch_flags (first : FrameVector) (m : Memory) : (State.launch first m).flags = ⟨false, false, false, false, false⟩ := rfl
@[simp] theorem State.launch_ie (first : FrameVector) (m : Memory) : (State.launch first m).ie = false := rfl
@[simp] theorem State.launch_halted (first : FrameVector) (m : Memory) : (State.launch first m).halted = false := rfl
@[simp] theorem State.launch_fault (first : FrameVector) (m : Memory) : (State.launch first m).fault = none := rfl
@[simp] theorem State.launch_ports (first : FrameVector) (m : Memory) : (State.launch first m).ports = ⟨0, 0, 0, 0⟩ := rfl
@[simp] theorem State.launch_mem (first : FrameVector) (m : Memory) : (State.launch first m).mem = m := rfl
@[simp] theorem State.launch_driver (first : FrameVector) (m : Memory) : (State.launch first m).driver = ⟨0, first⟩ := rfl

end Sys2Proof.Machine
end

