-- ==== Sys2Proof/Laws/Ops.lean ====
section
/-! SUPPORT. The laws of the shared operations: bytes and words, memory through the state, the stack, registers and pairs. -/

namespace Sys2Proof

/-! ### Packing (00_scope.md R7) -/

theorem cat16_toNat (h l : Byte) : (cat16 h l).toNat = h.toNat * 256 + l.toNat := by
  unfold cat16
  rw [BitVec.toNat_append, Nat.shiftLeft_eq, Nat.mul_comm, ← Nat.two_pow_add_eq_or_of_lt l.isLt]

theorem hi8_toNat (v : Word) : (hi8 v).toNat = v.toNat / 256 := by
  have := v.isLt
  simp [hi8, BitVec.extractLsb'_toNat, Nat.shiftRight_eq_div_pow]
  omega

theorem lo8_toNat (v : Word) : (lo8 v).toNat = v.toNat % 256 := by
  simp [lo8, BitVec.extractLsb'_toNat]

@[simp] theorem hi8_cat16 (h l : Byte) : hi8 (cat16 h l) = h := by
  apply BitVec.eq_of_toNat_eq
  rw [hi8_toNat, cat16_toNat]
  omega

@[simp] theorem lo8_cat16 (h l : Byte) : lo8 (cat16 h l) = l := by
  apply BitVec.eq_of_toNat_eq
  rw [lo8_toNat, cat16_toNat]
  omega

@[simp] theorem cat16_hi8_lo8 (v : Word) : cat16 (hi8 v) (lo8 v) = v := by
  apply BitVec.eq_of_toNat_eq
  rw [cat16_toNat, hi8_toNat, lo8_toNat]
  omega

end Sys2Proof

namespace Sys2Proof.Machine

/-! ### Addresses near one another are different -/

theorem word_add_one_ne (a : Word) : a + 1 ≠ a := by bv_omega
theorem word_sub_one_ne_sub_two (a : Word) : a - 1 ≠ a - 2 := by bv_omega

/-! ### Memory through the state (20_memory.md R51, R52) -/

@[simp] theorem State.read_write_same (s : State) (a : Word) (v : Byte) : (s.write a v).read a = v :=
  Memory.read_write_same s.mem a.toNat v

theorem State.read_write_other (s : State) {a b : Word} (v : Byte) (h : b ≠ a) : (s.write a v).read b = s.read b :=
  Memory.read_write_other s.mem v (fun hn => h (BitVec.eq_of_toNat_eq hn))

/-- A read depends on the memory only. -/
theorem State.read_congr {s t : State} (h : t.mem = s.mem) (a : Word) : t.read a = s.read a := by
  simp [State.read, h]

theorem State.readWord_writeWord (s : State) (a v : Word) : (s.writeWord a v).readWord a = v := by
  have h : a ≠ a + 1 := (word_add_one_ne a).symm
  rw [State.readWord, State.writeWord, State.read_write_same, State.read_write_other _ _ h, State.read_write_same,
    cat16_hi8_lo8]

theorem State.read_writeWord_other (s : State) {a b : Word} (v : Word) (h0 : b ≠ a) (h1 : b ≠ a + 1) :
    (s.writeWord a v).read b = s.read b := by
  rw [State.writeWord, State.read_write_other _ _ h1, State.read_write_other _ _ h0]

/-! ### The stack (20_memory.md R57) -/

/-- A push changes memory as its two stores do. -/
theorem State.read_push (s : State) (v : Word) (b : Word) :
    (s.push v).read b = ((s.write (s.sp - 1) (hi8 v)).write (s.sp - 2) (lo8 v)).read b := rfl

theorem State.read_push_high (s : State) (v : Word) : (s.push v).read (s.sp - 1) = hi8 v := by
  rw [State.read_push, State.read_write_other _ _ (word_sub_one_ne_sub_two s.sp), State.read_write_same]

theorem State.read_push_low (s : State) (v : Word) : (s.push v).read (s.sp - 2) = lo8 v := by
  rw [State.read_push, State.read_write_same]

theorem State.read_push_other (s : State) (v : Word) {b : Word} (h1 : b ≠ s.sp - 1) (h2 : b ≠ s.sp - 2) :
    (s.push v).read b = s.read b := by
  rw [State.read_push, State.read_write_other _ _ h2, State.read_write_other _ _ h1]

/-- What was pushed is the word on top of the stack. -/
theorem State.top_push (s : State) (v : Word) : (s.push v).top = v := by
  have h : s.sp - 2 + 1 = s.sp - 1 := by bv_omega
  rw [State.top, State.readWord, State.push_sp, h, State.read_push_high, State.read_push_low, cat16_hi8_lo8]

/-- The word on top depends on the memory and SP only. -/
theorem State.top_congr {s t : State} (hm : t.mem = s.mem) (hs : t.sp = s.sp) : t.top = s.top := by
  simp [State.top, State.readWord, State.read, hm, hs]

/-! ### Registers and pairs (10_state.md R21, R23) -/

@[simp] theorem Regs.get_set_same (g : Regs) (r : Reg) (v : Byte) : (g.set r v).get r = v := by cases r <;> rfl

theorem Regs.get_set_other (g : Regs) {r q : Reg} (v : Byte) (h : q ≠ r) : (g.set r v).get q = g.get q := by
  cases r <;> cases q <;> first | rfl | exact absurd rfl h

@[simp] theorem Regs.set_get_self (g : Regs) (r : Reg) : g.set r (g.get r) = g := by cases r <;> rfl

@[simp] theorem State.pair_setPair_same (s : State) (p : Pair) (v : Word) : (s.setPair p v).pair p = v := by
  cases p <;> simp [State.setPair, State.pair]

/-- A pair depends on the register file and SP only. -/
theorem State.pair_congr {s t : State} (hr : t.regs = s.regs) (hs : t.sp = s.sp) (p : Pair) : t.pair p = s.pair p := by
  cases p <;> simp [State.pair, hr, hs]

@[simp] theorem State.pair_advance (s : State) (len : Word) (p : Pair) : (s.advance len).pair p = s.pair p :=
  State.pair_congr rfl rfl p

/-- An operand depends on the register file and the memory only. -/
theorem State.operand_congr {s t : State} (hr : t.regs = s.regs) (hm : t.mem = s.mem) (o : Operand) :
    t.operand o = s.operand o := by
  cases o <;> simp [State.operand, State.pair, State.read, hr, hm]

/-- The flag byte keeps every flag (10_state.md R31). -/
@[simp] theorem Flags.ofByte_toByte (f : Flags) : Flags.ofByte f.toByte = f := by
  obtain ⟨z, s, p, cy, ac⟩ := f
  cases z <;> cases s <;> cases p <;> cases cy <;> cases ac <;> rfl

/-! ### The canonical form (log 1) -/

theorem State.wf_write {s : State} (a : Word) (v : Byte) (h : s.mem.wf = true) : (s.write a v).mem.wf = true :=
  Memory.wf_write v a.isLt h

theorem State.wf_writeWord {s : State} (a v : Word) (h : s.mem.wf = true) : (s.writeWord a v).mem.wf = true :=
  State.wf_write _ _ (State.wf_write _ _ h)

theorem State.wf_push {s : State} (v : Word) (h : s.mem.wf = true) : (s.push v).mem.wf = true :=
  State.wf_write (s := s.write (s.sp - 1) (hi8 v)) _ _ (State.wf_write _ _ h)

theorem State.wf_setOperand {s : State} (o : Operand) (v : Byte) (h : s.mem.wf = true) :
    (s.setOperand o v).mem.wf = true := by
  cases o with
  | reg r => exact h
  | m => exact State.wf_write _ _ h

theorem State.wf_writeBytes {s : State} (a : Word) (vs : List Byte) (h : s.mem.wf = true) :
    (s.writeBytes a vs).mem.wf = true := by
  induction vs generalizing s a with
  | nil => exact h
  | cons v vs ih => exact ih _ (State.wf_write _ _ h)

theorem State.wf_interruptEntry {s : State} (n : Nat) (h : s.mem.wf = true) : (s.interruptEntry n).mem.wf = true :=
  State.wf_push _ h

end Sys2Proof.Machine
end

