-- ==== Sys2Proof/Laws/Shape.lean ====
section
/-! SUPPORT. Every instruction by its builder: one split of the 245 constructors into the 46 shapes of the opcode map
(30_encoding.md R102 to R109), for the statements about all instructions. -/

namespace Sys2Proof

/-- The shapes: a builder of Decode.lean with its operands, or an instruction of its own. -/
inductive Instr.Shape : Instr → Prop where
  | movRR (dst : Reg) (src : Reg) : Shape (.movRR dst src)
  | movRM (dst : Reg) : Shape (.movRM dst)
  | movMR (src : Reg) : Shape (.movMR src)
  | mvi (d : Byte) (o : Operand) : Shape (.mvi d o)
  | inr (o : Operand) : Shape (.inr o)
  | dcr (o : Operand) : Shape (.dcr o)
  | lxi (d : Word) (p : Pair) : Shape (.lxi d p)
  | inx (p : Pair) : Shape (.inx p)
  | dcx (p : Pair) : Shape (.dcx p)
  | dad (p : Pair) : Shape (.dad p)
  | ldax (p : IndexPair) : Shape (.ldax p)
  | stax (p : IndexPair) : Shape (.stax p)
  | push (p : StackPair) : Shape (.push p)
  | pop (p : StackPair) : Shape (.pop p)
  | alu (op : AluOp) (o : Operand) : Shape (.alu op o)
  | aluImm (d : Byte) (op : AluOp) : Shape (.aluImm d op)
  | jcc (a : Word) (cond : Cond) : Shape (.jcc a cond)
  | ccc (a : Word) (cond : Cond) : Shape (.ccc a cond)
  | rcc (cond : Cond) : Shape (.rcc cond)
  | rst (n : BitVec 3) : Shape (.rst n)
  | illegal (op : Byte) : Shape (.illegal op)
  | shld (a : Word) : Shape (.shld a)
  | lhld (a : Word) : Shape (.lhld a)
  | sta (a : Word) : Shape (.sta a)
  | lda (a : Word) : Shape (.lda a)
  | xthl : Shape .xthl
  | xchg : Shape .xchg
  | sphl : Shape .sphl
  | daa : Shape .daa
  | cma : Shape .cma
  | stc : Shape .stc
  | cmc : Shape .cmc
  | rlc : Shape .rlc
  | rrc : Shape .rrc
  | ral : Shape .ral
  | rar : Shape .rar
  | jmp (a : Word) : Shape (.jmp a)
  | ret : Shape .ret
  | call (a : Word) : Shape (.call a)
  | pchl : Shape .pchl
  | nop : Shape .nop
  | hlt : Shape .hlt
  | out (p : Byte) : Shape (.out p)
  | inp (p : Byte) : Shape (.inp p)
  | di : Shape .di
  | ei : Shape .ei

/-- Every instruction has a shape. -/
theorem Instr.shape (i : Instr) : i.Shape :=
  match i with
  | .illegal op => .illegal op
  | .lxiB d => .lxi d .bc
  | .staxB => .stax .bc
  | .mviB d => .mvi d (.reg .b)
  | .ldaxB => .ldax .bc
  | .mviC d => .mvi d (.reg .c)
  | .lxiD d => .lxi d .de
  | .staxD => .stax .de
  | .mviD d => .mvi d (.reg .d)
  | .ldaxD => .ldax .de
  | .mviE d => .mvi d (.reg .e)
  | .lxiH d => .lxi d .hl
  | .shld a => .shld a
  | .mviH d => .mvi d (.reg .h)
  | .lhld a => .lhld a
  | .mviL d => .mvi d (.reg .l)
  | .lxiSP d => .lxi d .sp
  | .sta a => .sta a
  | .mviM d => .mvi d .m
  | .lda a => .lda a
  | .mviA d => .mvi d (.reg .a)
  | .movBB => .movRR .b .b
  | .movBC => .movRR .b .c
  | .movBD => .movRR .b .d
  | .movBE => .movRR .b .e
  | .movBH => .movRR .b .h
  | .movBL => .movRR .b .l
  | .movBM => .movRM .b
  | .movBA => .movRR .b .a
  | .movCB => .movRR .c .b
  | .movCC => .movRR .c .c
  | .movCD => .movRR .c .d
  | .movCE => .movRR .c .e
  | .movCH => .movRR .c .h
  | .movCL => .movRR .c .l
  | .movCM => .movRM .c
  | .movCA => .movRR .c .a
  | .movDB => .movRR .d .b
  | .movDC => .movRR .d .c
  | .movDD => .movRR .d .d
  | .movDE => .movRR .d .e
  | .movDH => .movRR .d .h
  | .movDL => .movRR .d .l
  | .movDM => .movRM .d
  | .movDA => .movRR .d .a
  | .movEB => .movRR .e .b
  | .movEC => .movRR .e .c
  | .movED => .movRR .e .d
  | .movEE => .movRR .e .e
  | .movEH => .movRR .e .h
  | .movEL => .movRR .e .l
  | .movEM => .movRM .e
  | .movEA => .movRR .e .a
  | .movHB => .movRR .h .b
  | .movHC => .movRR .h .c
  | .movHD => .movRR .h .d
  | .movHE => .movRR .h .e
  | .movHH => .movRR .h .h
  | .movHL => .movRR .h .l
  | .movHM => .movRM .h
  | .movHA => .movRR .h .a
  | .movLB => .movRR .l .b
  | .movLC => .movRR .l .c
  | .movLD => .movRR .l .d
  | .movLE => .movRR .l .e
  | .movLH => .movRR .l .h
  | .movLL => .movRR .l .l
  | .movLM => .movRM .l
  | .movLA => .movRR .l .a
  | .movMB => .movMR .b
  | .movMC => .movMR .c
  | .movMD => .movMR .d
  | .movME => .movMR .e
  | .movMH => .movMR .h
  | .movML => .movMR .l
  | .movMA => .movMR .a
  | .movAB => .movRR .a .b
  | .movAC => .movRR .a .c
  | .movAD => .movRR .a .d
  | .movAE => .movRR .a .e
  | .movAH => .movRR .a .h
  | .movAL => .movRR .a .l
  | .movAM => .movRM .a
  | .movAA => .movRR .a .a
  | .popB => .pop .bc
  | .pushB => .push .bc
  | .popD => .pop .de
  | .pushD => .push .de
  | .popH => .pop .hl
  | .xthl => .xthl
  | .pushH => .push .hl
  | .xchg => .xchg
  | .popPSW => .pop .psw
  | .pushPSW => .push .psw
  | .sphl => .sphl
  | .inxB => .inx .bc
  | .inrB => .inr (.reg .b)
  | .dcrB => .dcr (.reg .b)
  | .dadB => .dad .bc
  | .dcxB => .dcx .bc
  | .inrC => .inr (.reg .c)
  | .dcrC => .dcr (.reg .c)
  | .inxD => .inx .de
  | .inrD => .inr (.reg .d)
  | .dcrD => .dcr (.reg .d)
  | .dadD => .dad .de
  | .dcxD => .dcx .de
  | .inrE => .inr (.reg .e)
  | .dcrE => .dcr (.reg .e)
  | .inxH => .inx .hl
  | .inrH => .inr (.reg .h)
  | .dcrH => .dcr (.reg .h)
  | .daa => .daa
  | .dadH => .dad .hl
  | .dcxH => .dcx .hl
  | .inrL => .inr (.reg .l)
  | .dcrL => .dcr (.reg .l)
  | .inxSP => .inx .sp
  | .inrM => .inr .m
  | .dcrM => .dcr .m
  | .dadSP => .dad .sp
  | .dcxSP => .dcx .sp
  | .inrA => .inr (.reg .a)
  | .dcrA => .dcr (.reg .a)
  | .addB => .alu .add (.reg .b)
  | .addC => .alu .add (.reg .c)
  | .addD => .alu .add (.reg .d)
  | .addE => .alu .add (.reg .e)
  | .addH => .alu .add (.reg .h)
  | .addL => .alu .add (.reg .l)
  | .addM => .alu .add .m
  | .addA => .alu .add (.reg .a)
  | .adcB => .alu .adc (.reg .b)
  | .adcC => .alu .adc (.reg .c)
  | .adcD => .alu .adc (.reg .d)
  | .adcE => .alu .adc (.reg .e)
  | .adcH => .alu .adc (.reg .h)
  | .adcL => .alu .adc (.reg .l)
  | .adcM => .alu .adc .m
  | .adcA => .alu .adc (.reg .a)
  | .subB => .alu .sub (.reg .b)
  | .subC => .alu .sub (.reg .c)
  | .subD => .alu .sub (.reg .d)
  | .subE => .alu .sub (.reg .e)
  | .subH => .alu .sub (.reg .h)
  | .subL => .alu .sub (.reg .l)
  | .subM => .alu .sub .m
  | .subA => .alu .sub (.reg .a)
  | .sbbB => .alu .sbb (.reg .b)
  | .sbbC => .alu .sbb (.reg .c)
  | .sbbD => .alu .sbb (.reg .d)
  | .sbbE => .alu .sbb (.reg .e)
  | .sbbH => .alu .sbb (.reg .h)
  | .sbbL => .alu .sbb (.reg .l)
  | .sbbM => .alu .sbb .m
  | .sbbA => .alu .sbb (.reg .a)
  | .adi d => .aluImm d .add
  | .aci d => .aluImm d .adc
  | .sui d => .aluImm d .sub
  | .sbi d => .aluImm d .sbb
  | .cma => .cma
  | .stc => .stc
  | .cmc => .cmc
  | .anaB => .alu .ana (.reg .b)
  | .anaC => .alu .ana (.reg .c)
  | .anaD => .alu .ana (.reg .d)
  | .anaE => .alu .ana (.reg .e)
  | .anaH => .alu .ana (.reg .h)
  | .anaL => .alu .ana (.reg .l)
  | .anaM => .alu .ana .m
  | .anaA => .alu .ana (.reg .a)
  | .xraB => .alu .xra (.reg .b)
  | .xraC => .alu .xra (.reg .c)
  | .xraD => .alu .xra (.reg .d)
  | .xraE => .alu .xra (.reg .e)
  | .xraH => .alu .xra (.reg .h)
  | .xraL => .alu .xra (.reg .l)
  | .xraM => .alu .xra .m
  | .xraA => .alu .xra (.reg .a)
  | .oraB => .alu .ora (.reg .b)
  | .oraC => .alu .ora (.reg .c)
  | .oraD => .alu .ora (.reg .d)
  | .oraE => .alu .ora (.reg .e)
  | .oraH => .alu .ora (.reg .h)
  | .oraL => .alu .ora (.reg .l)
  | .oraM => .alu .ora .m
  | .oraA => .alu .ora (.reg .a)
  | .cmpB => .alu .cmp (.reg .b)
  | .cmpC => .alu .cmp (.reg .c)
  | .cmpD => .alu .cmp (.reg .d)
  | .cmpE => .alu .cmp (.reg .e)
  | .cmpH => .alu .cmp (.reg .h)
  | .cmpL => .alu .cmp (.reg .l)
  | .cmpM => .alu .cmp .m
  | .cmpA => .alu .cmp (.reg .a)
  | .ani d => .aluImm d .ana
  | .xri d => .aluImm d .xra
  | .ori d => .aluImm d .ora
  | .cpi d => .aluImm d .cmp
  | .rlc => .rlc
  | .rrc => .rrc
  | .ral => .ral
  | .rar => .rar
  | .rnz => .rcc .nz
  | .jnz a => .jcc a .nz
  | .jmp a => .jmp a
  | .cnz a => .ccc a .nz
  | .rst0 => .rst 0
  | .rz => .rcc .z
  | .ret => .ret
  | .jz a => .jcc a .z
  | .cz a => .ccc a .z
  | .call a => .call a
  | .rst1 => .rst 1
  | .rnc => .rcc .nc
  | .jnc a => .jcc a .nc
  | .cnc a => .ccc a .nc
  | .rst2 => .rst 2
  | .rc => .rcc .c
  | .jc a => .jcc a .c
  | .cc a => .ccc a .c
  | .rst3 => .rst 3
  | .rpo => .rcc .po
  | .jpo a => .jcc a .po
  | .cpo a => .ccc a .po
  | .rst4 => .rst 4
  | .rpe => .rcc .pe
  | .pchl => .pchl
  | .jpe a => .jcc a .pe
  | .cpe a => .ccc a .pe
  | .rst5 => .rst 5
  | .rp => .rcc .p
  | .jp a => .jcc a .p
  | .cp a => .ccc a .p
  | .rst6 => .rst 6
  | .rm => .rcc .m
  | .jm a => .jcc a .m
  | .cm a => .ccc a .m
  | .rst7 => .rst 7
  | .nop => .nop
  | .hlt => .hlt
  | .out p => .out p
  | .inp p => .inp p
  | .di => .di
  | .ei => .ei

end Sys2Proof
end

