-- ==== Sys2Proof/Laws/Exec.lean ====
section
/-! SUPPORT. exec on each family is its shared operation: one lemma for each builder of Decode.lean, so that a proof about a
family splits its constructors once. After them, what each shared operation can do when it answers a next state. -/

namespace Sys2Proof.Machine

/-! ### From the constructors to the shared operations -/

theorem exec_movRR (dst src : Reg) (s : State) : exec (.movRR dst src) s = moveOp (.reg dst) (.reg src) s := by
  cases dst <;> cases src <;> rfl

theorem exec_movRM (dst : Reg) (s : State) : exec (.movRM dst) s = moveOp (.reg dst) .m s := by cases dst <;> rfl

theorem exec_movMR (src : Reg) (s : State) : exec (.movMR src) s = moveOp .m (.reg src) s := by cases src <;> rfl

theorem exec_mvi (v : Byte) (o : Operand) (s : State) : exec (.mvi v o) s = moveImmOp o v s := by
  rcases o with r | _
  · cases r <;> rfl
  · rfl

theorem exec_lxi (v : Word) (p : Pair) (s : State) : exec (.lxi v p) s = loadPairImmOp p v s := by cases p <;> rfl

theorem exec_inr (o : Operand) (s : State) : exec (.inr o) s = incrementOp o s := by
  rcases o with r | _
  · cases r <;> rfl
  · rfl

theorem exec_dcr (o : Operand) (s : State) : exec (.dcr o) s = decrementOp o s := by
  rcases o with r | _
  · cases r <;> rfl
  · rfl

theorem exec_inx (p : Pair) (s : State) : exec (.inx p) s = incrementPairOp p s := by cases p <;> rfl

theorem exec_dcx (p : Pair) (s : State) : exec (.dcx p) s = decrementPairOp p s := by cases p <;> rfl

theorem exec_dad (p : Pair) (s : State) : exec (.dad p) s = addPairOp p s := by cases p <;> rfl

theorem exec_ldax (p : IndexPair) (s : State) : exec (.ldax p) s = loadAccOp (s.pair (indexPair p)) 1 s := by
  cases p <;> rfl

theorem exec_stax (p : IndexPair) (s : State) : exec (.stax p) s = storeAccOp (s.pair (indexPair p)) 1 s := by
  cases p <;> rfl

theorem exec_alu (op : AluOp) (o : Operand) (s : State) : exec (.alu op o) s = aluOp op (s.operand o) 1 s := by
  rcases o with r | _
  · cases op <;> cases r <;> rfl
  · cases op <;> rfl

theorem exec_aluImm (v : Byte) (op : AluOp) (s : State) : exec (.aluImm v op) s = aluOp op v 2 s := by cases op <;> rfl

theorem exec_jcc (a : Word) (cond : Cond) (s : State) : exec (.jcc a cond) s = jumpIfOp cond a s := by cases cond <;> rfl

theorem exec_ccc (a : Word) (cond : Cond) (s : State) : exec (.ccc a cond) s = callIfOp cond a s := by cases cond <;> rfl

theorem exec_rcc (cond : Cond) (s : State) : exec (.rcc cond) s = returnIfOp cond s := by cases cond <;> rfl

theorem exec_rst (n : BitVec 3) (s : State) : exec (.rst n) s = callOp (vectorAddress n.toNat) 1 s := by
  have h : ∀ k : Fin 8, exec (.rst (BitVec.ofFin k)) s = callOp (vectorAddress k) 1 s := by
    intro k
    match k with
    | 0 => rfl
    | 1 => rfl
    | 2 => rfl
    | 3 => rfl
    | 4 => rfl
    | 5 => rfl
    | 6 => rfl
    | 7 => rfl
  exact h n.toFin

/-! ### What a shared operation does -/

theorem moveOp_next {dst src : Operand} {s t : State} (h : moveOp dst src s = .next t) :
    t = (s.setOperand dst (s.operand src)).advance 1 := by cases h; rfl

theorem aluOp_next {op : AluOp} {v : Byte} {len : Word} {s t : State} (h : aluOp op v len s = .next t) :
    t.regs = s.regs.set .a (aluApply op s.regs.a v s.flags.cy).1 ∧ t.flags = (aluApply op s.regs.a v s.flags.cy).2
      ∧ t.pc = s.pc + len ∧ t.sp = s.sp ∧ t.mem = s.mem ∧ s.SameSystem t := by
  cases h
  exact ⟨rfl, rfl, rfl, rfl, rfl, rfl, rfl, rfl, rfl, rfl⟩

theorem incrementOp_next {o : Operand} {s t : State} (h : incrementOp o s = .next t) :
    t = { s.setOperand o (inc8 (s.operand o) s.flags).1 with
      flags := (inc8 (s.operand o) s.flags).2 }.advance 1 := by cases h; rfl

theorem decrementOp_next {o : Operand} {s t : State} (h : decrementOp o s = .next t) :
    t = { s.setOperand o (dec8 (s.operand o) s.flags).1 with
      flags := (dec8 (s.operand o) s.flags).2 }.advance 1 := by cases h; rfl

theorem rotateOp_next {r : Byte × Bool} {s t : State} (h : rotateOp r s = .next t) :
    t.regs = s.regs.set .a r.1 ∧ t.flags = { s.flags with cy := r.2 } ∧ t.pc = s.pc + 1 ∧ t.sp = s.sp ∧ t.mem = s.mem
      ∧ s.SameSystem t := by
  cases h
  exact ⟨rfl, rfl, rfl, rfl, rfl, rfl, rfl, rfl, rfl, rfl⟩

theorem callOp_next {target len : Word} {s t : State} (h : callOp target len s = .next t) :
    t.pc = target ∧ t.sp = s.sp - 2 ∧ t.top = s.pc + len ∧ (∀ b, b ≠ s.sp - 1 → b ≠ s.sp - 2 → t.read b = s.read b)
      ∧ t.regs = s.regs ∧ t.flags = s.flags ∧ s.SameSystem t := by
  cases h
  refine ⟨rfl, rfl, ?_, fun b h1 h2 => ?_, rfl, rfl, rfl, rfl, rfl, rfl, rfl⟩
  · exact State.top_push s (s.pc + len)
  · exact State.read_push_other s (s.pc + len) h1 h2

theorem returnOp_next {s t : State} (h : returnOp s = .next t) :
    t.pc = s.top ∧ t.sp = s.sp + 2 ∧ t.mem = s.mem ∧ t.regs = s.regs ∧ t.flags = s.flags ∧ s.SameSystem t := by
  cases h
  exact ⟨rfl, rfl, rfl, rfl, rfl, rfl, rfl, rfl, rfl, rfl⟩

/-- What a conditional transfer does: one of its two outcomes, as the condition says. -/
theorem jumpIfOp_cases (cond : Cond) (a : Word) (s : State) :
    (s.flags.holds cond = true ∧ jumpIfOp cond a s = .next (s.jump a))
      ∨ (s.flags.holds cond = false ∧ jumpIfOp cond a s = .next (s.advance 3)) := by
  cases h : s.flags.holds cond <;> simp [jumpIfOp, h]

theorem callIfOp_cases (cond : Cond) (a : Word) (s : State) :
    (s.flags.holds cond = true ∧ callIfOp cond a s = callOp a 3 s)
      ∨ (s.flags.holds cond = false ∧ callIfOp cond a s = .next (s.advance 3)) := by
  cases h : s.flags.holds cond <;> simp [callIfOp, h]

theorem returnIfOp_cases (cond : Cond) (s : State) :
    (s.flags.holds cond = true ∧ returnIfOp cond s = returnOp s)
      ∨ (s.flags.holds cond = false ∧ returnIfOp cond s = .next (s.advance 1)) := by
  cases h : s.flags.holds cond <;> simp [returnIfOp, h]

/-- Interrupt entry (60_exceptions.md R806). -/
theorem interruptEntry_spec (s : State) (n : Nat) :
    (s.interruptEntry n).pc = vectorAddress n ∧ (s.interruptEntry n).sp = s.sp - 2 ∧ (s.interruptEntry n).top = s.pc
      ∧ (∀ b, b ≠ s.sp - 1 → b ≠ s.sp - 2 → (s.interruptEntry n).read b = s.read b) := by
  refine ⟨rfl, rfl, ?_, fun b h1 h2 => ?_⟩
  · exact State.top_push s s.pc
  · exact State.read_push_other s s.pc h1 h2

/-! ### The step -/

/-- The cases of a step (30_encoding.md R110). -/
theorem step_cases (s : State) :
    (∃ r, s.fault = some r ∧ step s = .fault (.stopped r.opcode r.pc))
      ∨ (s.fault = none ∧ s.halted = true ∧ step s = .next s)
      ∨ (s.fault = none ∧ s.halted = false ∧ step s = exec s.fetch s) := by
  cases hf : s.fault with
  | some r => exact .inl ⟨r, rfl, by simp [step, hf]⟩
  | none =>
    cases hh : s.halted with
    | true => exact .inr (.inl ⟨rfl, rfl, by simp [step, hf, hh, State.idle]⟩)
    | false => exact .inr (.inr ⟨rfl, rfl, by simp [step, hf, hh]⟩)

/-- A machine whose step leaves a state as it is stays there. -/
theorem run_of_step_self (M : Host.Core) (n : Nat) (s : M.State) (h : M.step s = .next s) : M.run n s = .next s := by
  induction n with
  | zero => rfl
  | succ n ih => rw [Host.Core.run, h]; exact ih

/-- The cases of `raise` (60_exceptions.md R802, R804, R806, R807). -/
theorem raise_cases (v : Nat) (s : State) :
    (v > 7 ∧ raise v s = .refused (.vectorOutOfRange v))
      ∨ (v ≤ 7 ∧ s.fault = none ∧ s.ie = true ∧ raise v s = .next (s.interruptEntry v))
      ∨ (v ≤ 7 ∧ (s.fault ≠ none ∨ s.ie = false) ∧ raise v s = .next s) := by
  by_cases hv : v > 7
  · exact .inl ⟨hv, by simp [raise, hv]⟩
  · cases hf : s.fault with
    | some r => exact .inr (.inr ⟨by omega, .inl (by simp), by simp [raise, hv, hf]⟩)
    | none =>
      cases hi : s.ie with
      | true => exact .inr (.inl ⟨by omega, rfl, rfl, by simp [raise, hv, hf, hi]⟩)
      | false => exact .inr (.inr ⟨by omega, .inr rfl, by simp [raise, hv, hf, hi]⟩)

end Sys2Proof.Machine
end

