-- ==== Sys2Proof/Laws/Driver.lean ====
section
/-! SUPPORT. The driver and the host's moves, one case lemma for each function (60_exceptions.md R818, R805). -/

namespace Sys2Proof.Machine

/-! ### `State.withDriver` -/

@[simp] theorem State.withDriver_regs (s : State) (d : DriverState) : (s.withDriver d).regs = s.regs := rfl
@[simp] theorem State.withDriver_sp (s : State) (d : DriverState) : (s.withDriver d).sp = s.sp := rfl
@[simp] theorem State.withDriver_pc (s : State) (d : DriverState) : (s.withDriver d).pc = s.pc := rfl
@[simp] theorem State.withDriver_flags (s : State) (d : DriverState) : (s.withDriver d).flags = s.flags := rfl
@[simp] theorem State.withDriver_ie (s : State) (d : DriverState) : (s.withDriver d).ie = s.ie := rfl
@[simp] theorem State.withDriver_halted (s : State) (d : DriverState) : (s.withDriver d).halted = s.halted := rfl
@[simp] theorem State.withDriver_fault (s : State) (d : DriverState) : (s.withDriver d).fault = s.fault := rfl
@[simp] theorem State.withDriver_ports (s : State) (d : DriverState) : (s.withDriver d).ports = s.ports := rfl
@[simp] theorem State.withDriver_mem (s : State) (d : DriverState) : (s.withDriver d).mem = s.mem := rfl
@[simp] theorem State.withDriver_driver (s : State) (d : DriverState) : (s.withDriver d).driver = d := rfl

/-! ### The driver -/

/-- A timed step is a step and its count. -/
theorem timedStep_next {P : Config.Params} {s t : State} {c : Nat} :
    timedStep P s = .next (t, c) ↔ step s = .next t ∧ c = stepCycles P s := by
  unfold timedStep
  cases step s <;> simp [eq_comm]

theorem timedStep_fault {P : Config.Params} {s : State} {r : Fault} :
    timedStep P s = .fault r ↔ step s = .fault r := by
  unfold timedStep
  cases step s <;> simp

/-- The sum over one more step. -/
theorem cycleSum_succ {P : Config.Params} {s t : State} (n : Nat) (h : step s = .next t) :
    cycleSum P (n + 1) s = stepCycles P s + cycleSum P n t := by
  have ht : timedStep P s = .next (t, stepCycles P s) := timedStep_next.2 ⟨h, rfl⟩
  rw [cycleSum, ht]

/-- A run of one more step. -/
theorem run_succ_of_step (M : Host.Core) {s t : M.State} (n : Nat) (h : M.step s = .next t) : M.run (n + 1) s = M.run n t := by
  rw [Host.Core.run, h]

/-- The loop at its budget. -/
theorem frameLoop_of_budget {P : Config.Params} {s : State} (n : Nat) (h : P.frameBudget ≤ s.driver.cycleAcc) :
    frameLoop P n s = .done s := by
  cases n <;> rw [frameLoop, if_neg (by omega)]

/-- The loop goes on through a step that completes. -/
theorem frameLoop_of_next {P : Config.Params} {s t : State} (n : Nat) (h : s.driver.cycleAcc < P.frameBudget)
    (ht : step s = .next t) :
    frameLoop P (n + 1) s = frameLoop P n
      { t with driver := { t.driver with cycleAcc := t.driver.cycleAcc + stepCycles P s } } := by
  have hs : timedStep P s = .next (t, stepCycles P s) := timedStep_next.2 ⟨ht, rfl⟩
  rw [frameLoop, if_pos h, hs]

/-- The loop ends at a step that faults. -/
theorem frameLoop_of_fault {P : Config.Params} {s : State} {r : Fault} (n : Nat) (h : s.driver.cycleAcc < P.frameBudget)
    (hr : step s = .fault r) : frameLoop P (n + 1) s = .faulted (s.afterFault r) r := by
  rw [frameLoop, if_pos h, timedStep_fault.2 hr]

/-- After the loop: an interrupt delivered, or nothing (R818, R804). -/
theorem frameEnd_cases {s : State} (hf : s.fault = none) :
    (s.ie = true ∧ frameEnd s = .done { s.interruptEntry s.driver.nextVector.number with
        driver := { s.driver with nextVector := s.driver.nextVector.toggle } })
      ∨ (s.ie = false ∧ frameEnd s = .done s) := by
  have hv : ¬ s.driver.nextVector.number > 7 := by cases s.driver.nextVector <;> decide
  cases hi : s.ie with
  | false => exact .inr ⟨rfl, by simp [frameEnd, hi]⟩
  | true =>
    refine .inl ⟨rfl, ?_⟩
    have hr : raise s.driver.nextVector.number s = .next (s.interruptEntry s.driver.nextVector.number) := by
      simp [raise, hv, hf, hi]
    simp [frameEnd, hi, hr]

/-- Moves that each leave a state as it is leave it so together. -/
theorem hostMoves_of_each_self {s : State} (h : ∀ m, hostMove m s = .next s) (ms : List HostMove) :
    hostMoves ms s = .next s := by
  induction ms with
  | nil => rfl
  | cons m ms ih => rw [hostMoves, h m]; exact ih

end Sys2Proof.Machine
end

