-- ==== Sys2Proof/Laws/PerInstr.lean ====
section
/-! SUPPORT. The family EncodingShape, one lemma for each constructor: an encoding has one to three bytes
(30_encoding.md R100). -/

namespace Sys2Proof.Laws.EncodingShape

/-- An instruction is encoded in 1, 2 or 3 bytes. -/
def Statement (i : Instr) : Prop := 1 ≤ (encode i).length ∧ (encode i).length ≤ 3

/-- Every encoding has the shape; the lemmas below name it for each constructor. -/
theorem encode_shape (i : Instr) : Statement i := by
  unfold Statement
  cases i <;> exact ⟨by simp only [encode, List.length_cons, List.length_nil]; omega, by simp only [encode, List.length_cons, List.length_nil]; omega⟩

theorem lxiB (v : Word) : Statement (.lxiB v) := encode_shape _
theorem staxB : Statement .staxB := encode_shape _
theorem mviB (v : Byte) : Statement (.mviB v) := encode_shape _
theorem ldaxB : Statement .ldaxB := encode_shape _
theorem mviC (v : Byte) : Statement (.mviC v) := encode_shape _
theorem lxiD (v : Word) : Statement (.lxiD v) := encode_shape _
theorem staxD : Statement .staxD := encode_shape _
theorem mviD (v : Byte) : Statement (.mviD v) := encode_shape _
theorem ldaxD : Statement .ldaxD := encode_shape _
theorem mviE (v : Byte) : Statement (.mviE v) := encode_shape _
theorem lxiH (v : Word) : Statement (.lxiH v) := encode_shape _
theorem shld (v : Word) : Statement (.shld v) := encode_shape _
theorem mviH (v : Byte) : Statement (.mviH v) := encode_shape _
theorem lhld (v : Word) : Statement (.lhld v) := encode_shape _
theorem mviL (v : Byte) : Statement (.mviL v) := encode_shape _
theorem lxiSP (v : Word) : Statement (.lxiSP v) := encode_shape _
theorem sta (v : Word) : Statement (.sta v) := encode_shape _
theorem mviM (v : Byte) : Statement (.mviM v) := encode_shape _
theorem lda (v : Word) : Statement (.lda v) := encode_shape _
theorem mviA (v : Byte) : Statement (.mviA v) := encode_shape _
theorem movBB : Statement .movBB := encode_shape _
theorem movBC : Statement .movBC := encode_shape _
theorem movBD : Statement .movBD := encode_shape _
theorem movBE : Statement .movBE := encode_shape _
theorem movBH : Statement .movBH := encode_shape _
theorem movBL : Statement .movBL := encode_shape _
theorem movBM : Statement .movBM := encode_shape _
theorem movBA : Statement .movBA := encode_shape _
theorem movCB : Statement .movCB := encode_shape _
theorem movCC : Statement .movCC := encode_shape _
theorem movCD : Statement .movCD := encode_shape _
theorem movCE : Statement .movCE := encode_shape _
theorem movCH : Statement .movCH := encode_shape _
theorem movCL : Statement .movCL := encode_shape _
theorem movCM : Statement .movCM := encode_shape _
theorem movCA : Statement .movCA := encode_shape _
theorem movDB : Statement .movDB := encode_shape _
theorem movDC : Statement .movDC := encode_shape _
theorem movDD : Statement .movDD := encode_shape _
theorem movDE : Statement .movDE := encode_shape _
theorem movDH : Statement .movDH := encode_shape _
theorem movDL : Statement .movDL := encode_shape _
theorem movDM : Statement .movDM := encode_shape _
theorem movDA : Statement .movDA := encode_shape _
theorem movEB : Statement .movEB := encode_shape _
theorem movEC : Statement .movEC := encode_shape _
theorem movED : Statement .movED := encode_shape _
theorem movEE : Statement .movEE := encode_shape _
theorem movEH : Statement .movEH := encode_shape _
theorem movEL : Statement .movEL := encode_shape _
theorem movEM : Statement .movEM := encode_shape _
theorem movEA : Statement .movEA := encode_shape _
theorem movHB : Statement .movHB := encode_shape _
theorem movHC : Statement .movHC := encode_shape _
theorem movHD : Statement .movHD := encode_shape _
theorem movHE : Statement .movHE := encode_shape _
theorem movHH : Statement .movHH := encode_shape _
theorem movHL : Statement .movHL := encode_shape _
theorem movHM : Statement .movHM := encode_shape _
theorem movHA : Statement .movHA := encode_shape _
theorem movLB : Statement .movLB := encode_shape _
theorem movLC : Statement .movLC := encode_shape _
theorem movLD : Statement .movLD := encode_shape _
theorem movLE : Statement .movLE := encode_shape _
theorem movLH : Statement .movLH := encode_shape _
theorem movLL : Statement .movLL := encode_shape _
theorem movLM : Statement .movLM := encode_shape _
theorem movLA : Statement .movLA := encode_shape _
theorem movMB : Statement .movMB := encode_shape _
theorem movMC : Statement .movMC := encode_shape _
theorem movMD : Statement .movMD := encode_shape _
theorem movME : Statement .movME := encode_shape _
theorem movMH : Statement .movMH := encode_shape _
theorem movML : Statement .movML := encode_shape _
theorem movMA : Statement .movMA := encode_shape _
theorem movAB : Statement .movAB := encode_shape _
theorem movAC : Statement .movAC := encode_shape _
theorem movAD : Statement .movAD := encode_shape _
theorem movAE : Statement .movAE := encode_shape _
theorem movAH : Statement .movAH := encode_shape _
theorem movAL : Statement .movAL := encode_shape _
theorem movAM : Statement .movAM := encode_shape _
theorem movAA : Statement .movAA := encode_shape _
theorem popB : Statement .popB := encode_shape _
theorem pushB : Statement .pushB := encode_shape _
theorem popD : Statement .popD := encode_shape _
theorem pushD : Statement .pushD := encode_shape _
theorem popH : Statement .popH := encode_shape _
theorem xthl : Statement .xthl := encode_shape _
theorem pushH : Statement .pushH := encode_shape _
theorem xchg : Statement .xchg := encode_shape _
theorem popPSW : Statement .popPSW := encode_shape _
theorem pushPSW : Statement .pushPSW := encode_shape _
theorem sphl : Statement .sphl := encode_shape _
theorem inxB : Statement .inxB := encode_shape _
theorem inrB : Statement .inrB := encode_shape _
theorem dcrB : Statement .dcrB := encode_shape _
theorem dadB : Statement .dadB := encode_shape _
theorem dcxB : Statement .dcxB := encode_shape _
theorem inrC : Statement .inrC := encode_shape _
theorem dcrC : Statement .dcrC := encode_shape _
theorem inxD : Statement .inxD := encode_shape _
theorem inrD : Statement .inrD := encode_shape _
theorem dcrD : Statement .dcrD := encode_shape _
theorem dadD : Statement .dadD := encode_shape _
theorem dcxD : Statement .dcxD := encode_shape _
theorem inrE : Statement .inrE := encode_shape _
theorem dcrE : Statement .dcrE := encode_shape _
theorem inxH : Statement .inxH := encode_shape _
theorem inrH : Statement .inrH := encode_shape _
theorem dcrH : Statement .dcrH := encode_shape _
theorem daa : Statement .daa := encode_shape _
theorem dadH : Statement .dadH := encode_shape _
theorem dcxH : Statement .dcxH := encode_shape _
theorem inrL : Statement .inrL := encode_shape _
theorem dcrL : Statement .dcrL := encode_shape _
theorem inxSP : Statement .inxSP := encode_shape _
theorem inrM : Statement .inrM := encode_shape _
theorem dcrM : Statement .dcrM := encode_shape _
theorem dadSP : Statement .dadSP := encode_shape _
theorem dcxSP : Statement .dcxSP := encode_shape _
theorem inrA : Statement .inrA := encode_shape _
theorem dcrA : Statement .dcrA := encode_shape _
theorem addB : Statement .addB := encode_shape _
theorem addC : Statement .addC := encode_shape _
theorem addD : Statement .addD := encode_shape _
theorem addE : Statement .addE := encode_shape _
theorem addH : Statement .addH := encode_shape _
theorem addL : Statement .addL := encode_shape _
theorem addM : Statement .addM := encode_shape _
theorem addA : Statement .addA := encode_shape _
theorem adcB : Statement .adcB := encode_shape _
theorem adcC : Statement .adcC := encode_shape _
theorem adcD : Statement .adcD := encode_shape _
theorem adcE : Statement .adcE := encode_shape _
theorem adcH : Statement .adcH := encode_shape _
theorem adcL : Statement .adcL := encode_shape _
theorem adcM : Statement .adcM := encode_shape _
theorem adcA : Statement .adcA := encode_shape _
theorem subB : Statement .subB := encode_shape _
theorem subC : Statement .subC := encode_shape _
theorem subD : Statement .subD := encode_shape _
theorem subE : Statement .subE := encode_shape _
theorem subH : Statement .subH := encode_shape _
theorem subL : Statement .subL := encode_shape _
theorem subM : Statement .subM := encode_shape _
theorem subA : Statement .subA := encode_shape _
theorem sbbB : Statement .sbbB := encode_shape _
theorem sbbC : Statement .sbbC := encode_shape _
theorem sbbD : Statement .sbbD := encode_shape _
theorem sbbE : Statement .sbbE := encode_shape _
theorem sbbH : Statement .sbbH := encode_shape _
theorem sbbL : Statement .sbbL := encode_shape _
theorem sbbM : Statement .sbbM := encode_shape _
theorem sbbA : Statement .sbbA := encode_shape _
theorem adi (v : Byte) : Statement (.adi v) := encode_shape _
theorem aci (v : Byte) : Statement (.aci v) := encode_shape _
theorem sui (v : Byte) : Statement (.sui v) := encode_shape _
theorem sbi (v : Byte) : Statement (.sbi v) := encode_shape _
theorem cma : Statement .cma := encode_shape _
theorem stc : Statement .stc := encode_shape _
theorem cmc : Statement .cmc := encode_shape _
theorem anaB : Statement .anaB := encode_shape _
theorem anaC : Statement .anaC := encode_shape _
theorem anaD : Statement .anaD := encode_shape _
theorem anaE : Statement .anaE := encode_shape _
theorem anaH : Statement .anaH := encode_shape _
theorem anaL : Statement .anaL := encode_shape _
theorem anaM : Statement .anaM := encode_shape _
theorem anaA : Statement .anaA := encode_shape _
theorem xraB : Statement .xraB := encode_shape _
theorem xraC : Statement .xraC := encode_shape _
theorem xraD : Statement .xraD := encode_shape _
theorem xraE : Statement .xraE := encode_shape _
theorem xraH : Statement .xraH := encode_shape _
theorem xraL : Statement .xraL := encode_shape _
theorem xraM : Statement .xraM := encode_shape _
theorem xraA : Statement .xraA := encode_shape _
theorem oraB : Statement .oraB := encode_shape _
theorem oraC : Statement .oraC := encode_shape _
theorem oraD : Statement .oraD := encode_shape _
theorem oraE : Statement .oraE := encode_shape _
theorem oraH : Statement .oraH := encode_shape _
theorem oraL : Statement .oraL := encode_shape _
theorem oraM : Statement .oraM := encode_shape _
theorem oraA : Statement .oraA := encode_shape _
theorem cmpB : Statement .cmpB := encode_shape _
theorem cmpC : Statement .cmpC := encode_shape _
theorem cmpD : Statement .cmpD := encode_shape _
theorem cmpE : Statement .cmpE := encode_shape _
theorem cmpH : Statement .cmpH := encode_shape _
theorem cmpL : Statement .cmpL := encode_shape _
theorem cmpM : Statement .cmpM := encode_shape _
theorem cmpA : Statement .cmpA := encode_shape _
theorem ani (v : Byte) : Statement (.ani v) := encode_shape _
theorem xri (v : Byte) : Statement (.xri v) := encode_shape _
theorem ori (v : Byte) : Statement (.ori v) := encode_shape _
theorem cpi (v : Byte) : Statement (.cpi v) := encode_shape _
theorem rlc : Statement .rlc := encode_shape _
theorem rrc : Statement .rrc := encode_shape _
theorem ral : Statement .ral := encode_shape _
theorem rar : Statement .rar := encode_shape _
theorem rnz : Statement .rnz := encode_shape _
theorem jnz (v : Word) : Statement (.jnz v) := encode_shape _
theorem jmp (v : Word) : Statement (.jmp v) := encode_shape _
theorem cnz (v : Word) : Statement (.cnz v) := encode_shape _
theorem rst0 : Statement .rst0 := encode_shape _
theorem rz : Statement .rz := encode_shape _
theorem ret : Statement .ret := encode_shape _
theorem jz (v : Word) : Statement (.jz v) := encode_shape _
theorem cz (v : Word) : Statement (.cz v) := encode_shape _
theorem call (v : Word) : Statement (.call v) := encode_shape _
theorem rst1 : Statement .rst1 := encode_shape _
theorem rnc : Statement .rnc := encode_shape _
theorem jnc (v : Word) : Statement (.jnc v) := encode_shape _
theorem cnc (v : Word) : Statement (.cnc v) := encode_shape _
theorem rst2 : Statement .rst2 := encode_shape _
theorem rc : Statement .rc := encode_shape _
theorem jc (v : Word) : Statement (.jc v) := encode_shape _
theorem cc (v : Word) : Statement (.cc v) := encode_shape _
theorem rst3 : Statement .rst3 := encode_shape _
theorem rpo : Statement .rpo := encode_shape _
theorem jpo (v : Word) : Statement (.jpo v) := encode_shape _
theorem cpo (v : Word) : Statement (.cpo v) := encode_shape _
theorem rst4 : Statement .rst4 := encode_shape _
theorem rpe : Statement .rpe := encode_shape _
theorem pchl : Statement .pchl := encode_shape _
theorem jpe (v : Word) : Statement (.jpe v) := encode_shape _
theorem cpe (v : Word) : Statement (.cpe v) := encode_shape _
theorem rst5 : Statement .rst5 := encode_shape _
theorem rp : Statement .rp := encode_shape _
theorem jp (v : Word) : Statement (.jp v) := encode_shape _
theorem cp (v : Word) : Statement (.cp v) := encode_shape _
theorem rst6 : Statement .rst6 := encode_shape _
theorem rm : Statement .rm := encode_shape _
theorem jm (v : Word) : Statement (.jm v) := encode_shape _
theorem cm (v : Word) : Statement (.cm v) := encode_shape _
theorem rst7 : Statement .rst7 := encode_shape _
theorem nop : Statement .nop := encode_shape _
theorem hlt : Statement .hlt := encode_shape _
theorem out (v : Byte) : Statement (.out v) := encode_shape _
theorem inp (v : Byte) : Statement (.inp v) := encode_shape _
theorem di : Statement .di := encode_shape _
theorem ei : Statement .ei := encode_shape _
theorem illegal (op : Byte) : Statement (.illegal op) := encode_shape _

end Sys2Proof.Laws.EncodingShape
end

