-- ==== Sys2Proof/Machine/SelfTest.lean ====
section
/-! DEFINITION. The self-test harness (70_reset_and_hazards.md R904): its launch, its steps and its run until the stop. What the
harness itself adds is the OPEN parameter CPUDIAG_HARNESS (00_scope.md R6, 92_eei_decisions.md D32), an argument here (log 8). -/

namespace Sys2Proof.Machine

/-- CPUDIAG_HARNESS, its three parts. It is no part of State. -/
structure CpudiagHarness where
  /-- The PC of the first step. -/
  startPc : Word
  /-- The bytes from 0x0000 on, of which those below 0x0100 are used. -/
  low : List Byte
  /-- The console-call handling, asked between steps: `some t` where the program has made a console call and the harness, in place
  of the block's step, leaves `t`; `none` where it has made none. -/
  console : State → Option State

/-- The launch state (R904): the image at 0x0100 and SP = 0x2400, set before the first step (60_exceptions.md R820). -/
def CpudiagHarness.launch (harness : CpudiagHarness) (image : List Byte) : Result :=
  match State.reset.loadImage 0 (harness.low.take 0x100) with
  | .next s =>
    match s.loadImage 0x100 image with
    | .next t => .next { t with sp := 0x2400, pc := harness.startPc }
    | r => r
  | r => r

/-- The stop condition (R904): PC = 0x06E0. -/
def State.cpudiagStop (s : State) : Bool := s.pc == 0x06E0

/-- One move of the harness: a console call handled, or a step of the block. -/
def CpudiagHarness.move (harness : CpudiagHarness) (s : State) : Result :=
  match harness.console s with
  | some t => .next t
  | none => step s

/-- What a bounded run of the harness comes to. -/
inductive CpudiagResult where
  /-- PC reached the stop address. -/
  | stopped (s : State)
  /-- The bound was reached first. -/
  | running (s : State)
  /-- A step faulted: the state has FAULT recorded (60_exceptions.md R801). -/
  | faulted (s : State) (r : Fault)
  /-- A step was refused. -/
  | refused (s : State) (r : Refusal)
  deriving DecidableEq, Repr

/-- "running until PC reaches 0x06E0" (R904), for at most the given number of moves. -/
def CpudiagHarness.run (harness : CpudiagHarness) : Nat → State → CpudiagResult
  | 0, s => if s.cpudiagStop then .stopped s else .running s
  | n + 1, s =>
    if s.cpudiagStop then .stopped s
    else
      match harness.move s with
      | .next t => harness.run n t
      | .fault r => .faulted (s.afterFault r) r
      | .refused r => .refused s r

/-- The whole self-test: the launch, then the run. -/
def CpudiagHarness.selfTest (harness : CpudiagHarness) (image : List Byte) (moves : Nat) : CpudiagResult :=
  match harness.launch image with
  | .next s => harness.run moves s
  | .fault r => .faulted State.reset r
  | .refused r => .refused State.reset r

/-- The source's property P7 of an image and a harness (R904): "must terminate (does not loop or hang) within a bounded
instruction count". The image is not in the spec, so the model says what the property is and claims it of none. -/
def CpudiagHarness.Terminates (harness : CpudiagHarness) (image : List Byte) : Prop :=
  ∃ moves s, harness.selfTest image moves = .stopped s

end Sys2Proof.Machine
end

