-- ==== Sys2Proof/Laws/SelfTest.lean ====
section
/-! SUPPORT. The self-test harness: what a launch leaves, what a move can be, what a stopped run shows
(70_reset_and_hazards.md R904). -/

namespace Sys2Proof.Machine

@[simp] theorem State.cpudiagStop_iff (s : State) : s.cpudiagStop = true ↔ s.pc = 0x06E0 := by
  simp [State.cpudiagStop]

/-- A launch that completes leaves SP = 0x2400 and PC at the harness's start. -/
theorem CpudiagHarness.launch_next {harness : CpudiagHarness} {image : List Byte} {t : State}
    (h : harness.launch image = .next t) : t.sp = 0x2400 ∧ t.pc = harness.startPc := by
  unfold CpudiagHarness.launch at h
  split at h
  · split at h
    · cases h; exact ⟨rfl, rfl⟩
    · rename_i hne; exact absurd h (hne t)
  · rename_i hne; exact absurd h (hne t)

/-- A move is a console call handled or a step. -/
theorem CpudiagHarness.move_cases (harness : CpudiagHarness) (s : State) :
    (∃ t, harness.console s = some t ∧ harness.move s = .next t)
      ∨ (harness.console s = none ∧ harness.move s = step s) := by
  cases h : harness.console s with
  | some t => exact .inl ⟨t, rfl, by simp [CpudiagHarness.move, h]⟩
  | none => exact .inr ⟨rfl, by simp [CpudiagHarness.move, h]⟩

/-- A run that stops has PC at the stop address. -/
theorem CpudiagHarness.run_stopped {harness : CpudiagHarness} {n : Nat} {s t : State}
    (h : harness.run n s = .stopped t) : t.pc = 0x06E0 := by
  induction n generalizing s with
  | zero =>
    unfold CpudiagHarness.run at h
    split at h
    · rename_i hs; cases h; exact (State.cpudiagStop_iff _).1 hs
    · cases h
  | succ n ih =>
    unfold CpudiagHarness.run at h
    split at h
    · rename_i hs; cases h; exact (State.cpudiagStop_iff _).1 hs
    · split at h
      · exact ih h
      · cases h
      · cases h

/-- A self-test that stops has PC at the stop address. -/
theorem CpudiagHarness.selfTest_stopped {harness : CpudiagHarness} {image : List Byte} {n : Nat} {t : State}
    (h : harness.selfTest image n = .stopped t) : t.pc = 0x06E0 := by
  unfold CpudiagHarness.selfTest at h
  split at h
  · exact CpudiagHarness.run_stopped h
  · cases h
  · cases h

end Sys2Proof.Machine
end

