-- ==== Sys2Proof/Tests/Slice0.lean ====
section
/-! SUPPORT. The model's own tests: the smoke test of WellFormed, the words of the opcode map, the vectors of
95_test_vectors.md (V1 to V10, L6), each one step, and a witness for every statement that has hypotheses. -/

open Sys2Proof Sys2Proof.Machine

namespace Sys2Proof.Tests

/-! ### Helpers -/

/-- The reset state with code at an address and PC there. -/
def codeAt (pc : Word) (bytes : List Byte) : State := { State.reset.writeBytes pc bytes with pc := pc }

/-- The same at 0x0100, where the vectors stand. -/
def code (bytes : List Byte) : State := codeAt 0x0100 bytes

/-- A field of the state after a step. -/
def after {α : Type} (s : State) (f : State → α) : Option α :=
  match step s with
  | .next t => some (f t)
  | _ => none

/-- A field of the state after a `raise`. -/
def afterRaise {α : Type} (v : Nat) (s : State) (f : State → α) : Option α :=
  match raise v s with
  | .next t => some (f t)
  | _ => none

/-- The instruction that an opcode followed by the bytes 0x34, 0x12 holds. -/
def first (op : Byte) : Option Instr :=
  match decode [op, 0x34, 0x12] with
  | .instr i _ => some i
  | .refused _ => none

/-- A flag set in the order of the vectors: Z S P CY AC. -/
def fl (z s p cy ac : Nat) : Flags := ⟨z == 1, s == 1, p == 1, cy == 1, ac == 1⟩

/-! ### WellFormed -/

/-- R109: 0x00 is no illegal opcode, so ILLEGAL does not carry it. -/
theorem test_wellformed_refuses_a_defined_opcode : (Instr.illegal 0x00).wellFormed = false := rfl

/-- R109: 0x08 is one. -/
theorem test_wellformed_accepts_an_illegal_opcode : (Instr.illegal 0x08).wellFormed = true := rfl

/-! ### Decode: the opcode map (30_encoding.md R104 to R109), every opcode with the operand bytes 0x34, 0x12 -/

theorem test_decode_row_0 :
    [0x00, 0x01, 0x02, 0x03, 0x04, 0x05, 0x06, 0x07, 0x08, 0x09, 0x0A, 0x0B, 0x0C, 0x0D, 0x0E, 0x0F].map first =
      [some .nop, some (.lxiB 0x1234), some .staxB, some .inxB, some .inrB, some .dcrB, some (.mviB 0x34), some .rlc,
       some (.illegal 0x08), some .dadB, some .ldaxB, some .dcxB, some .inrC, some .dcrC, some (.mviC 0x34), some .rrc] := rfl

theorem test_decode_row_1 :
    [0x10, 0x11, 0x12, 0x13, 0x14, 0x15, 0x16, 0x17, 0x18, 0x19, 0x1A, 0x1B, 0x1C, 0x1D, 0x1E, 0x1F].map first =
      [some (.illegal 0x10), some (.lxiD 0x1234), some .staxD, some .inxD, some .inrD, some .dcrD, some (.mviD 0x34),
       some .ral, some (.illegal 0x18), some .dadD, some .ldaxD, some .dcxD, some .inrE, some .dcrE, some (.mviE 0x34),
       some .rar] := rfl

theorem test_decode_row_2 :
    [0x20, 0x21, 0x22, 0x23, 0x24, 0x25, 0x26, 0x27, 0x28, 0x29, 0x2A, 0x2B, 0x2C, 0x2D, 0x2E, 0x2F].map first =
      [some (.illegal 0x20), some (.lxiH 0x1234), some (.shld 0x1234), some .inxH, some .inrH, some .dcrH,
       some (.mviH 0x34), some .daa, some (.illegal 0x28), some .dadH, some (.lhld 0x1234), some .dcxH, some .inrL,
       some .dcrL, some (.mviL 0x34), some .cma] := rfl

theorem test_decode_row_3 :
    [0x30, 0x31, 0x32, 0x33, 0x34, 0x35, 0x36, 0x37, 0x38, 0x39, 0x3A, 0x3B, 0x3C, 0x3D, 0x3E, 0x3F].map first =
      [some (.illegal 0x30), some (.lxiSP 0x1234), some (.sta 0x1234), some .inxSP, some .inrM, some .dcrM,
       some (.mviM 0x34), some .stc, some (.illegal 0x38), some .dadSP, some (.lda 0x1234), some .dcxSP, some .inrA,
       some .dcrA, some (.mviA 0x34), some .cmc] := rfl

theorem test_decode_row_4 :
    [0x40, 0x41, 0x42, 0x43, 0x44, 0x45, 0x46, 0x47, 0x48, 0x49, 0x4A, 0x4B, 0x4C, 0x4D, 0x4E, 0x4F].map first =
      [some .movBB, some .movBC, some .movBD, some .movBE, some .movBH, some .movBL, some .movBM, some .movBA,
       some .movCB, some .movCC, some .movCD, some .movCE, some .movCH, some .movCL, some .movCM, some .movCA] := rfl

theorem test_decode_row_5 :
    [0x50, 0x51, 0x52, 0x53, 0x54, 0x55, 0x56, 0x57, 0x58, 0x59, 0x5A, 0x5B, 0x5C, 0x5D, 0x5E, 0x5F].map first =
      [some .movDB, some .movDC, some .movDD, some .movDE, some .movDH, some .movDL, some .movDM, some .movDA,
       some .movEB, some .movEC, some .movED, some .movEE, some .movEH, some .movEL, some .movEM, some .movEA] := rfl

theorem test_decode_row_6 :
    [0x60, 0x61, 0x62, 0x63, 0x64, 0x65, 0x66, 0x67, 0x68, 0x69, 0x6A, 0x6B, 0x6C, 0x6D, 0x6E, 0x6F].map first =
      [some .movHB, some .movHC, some .movHD, some .movHE, some .movHH, some .movHL, some .movHM, some .movHA,
       some .movLB, some .movLC, some .movLD, some .movLE, some .movLH, some .movLL, some .movLM, some .movLA] := rfl

theorem test_decode_row_7 :
    [0x70, 0x71, 0x72, 0x73, 0x74, 0x75, 0x76, 0x77, 0x78, 0x79, 0x7A, 0x7B, 0x7C, 0x7D, 0x7E, 0x7F].map first =
      [some .movMB, some .movMC, some .movMD, some .movME, some .movMH, some .movML, some .hlt, some .movMA, some .movAB,
       some .movAC, some .movAD, some .movAE, some .movAH, some .movAL, some .movAM, some .movAA] := rfl

theorem test_decode_row_8 :
    [0x80, 0x81, 0x82, 0x83, 0x84, 0x85, 0x86, 0x87, 0x88, 0x89, 0x8A, 0x8B, 0x8C, 0x8D, 0x8E, 0x8F].map first =
      [some .addB, some .addC, some .addD, some .addE, some .addH, some .addL, some .addM, some .addA, some .adcB,
       some .adcC, some .adcD, some .adcE, some .adcH, some .adcL, some .adcM, some .adcA] := rfl

theorem test_decode_row_9 :
    [0x90, 0x91, 0x92, 0x93, 0x94, 0x95, 0x96, 0x97, 0x98, 0x99, 0x9A, 0x9B, 0x9C, 0x9D, 0x9E, 0x9F].map first =
      [some .subB, some .subC, some .subD, some .subE, some .subH, some .subL, some .subM, some .subA, some .sbbB,
       some .sbbC, some .sbbD, some .sbbE, some .sbbH, some .sbbL, some .sbbM, some .sbbA] := rfl

theorem test_decode_row_A :
    [0xA0, 0xA1, 0xA2, 0xA3, 0xA4, 0xA5, 0xA6, 0xA7, 0xA8, 0xA9, 0xAA, 0xAB, 0xAC, 0xAD, 0xAE, 0xAF].map first =
      [some .anaB, some .anaC, some .anaD, some .anaE, some .anaH, some .anaL, some .anaM, some .anaA, some .xraB,
       some .xraC, some .xraD, some .xraE, some .xraH, some .xraL, some .xraM, some .xraA] := rfl

theorem test_decode_row_B :
    [0xB0, 0xB1, 0xB2, 0xB3, 0xB4, 0xB5, 0xB6, 0xB7, 0xB8, 0xB9, 0xBA, 0xBB, 0xBC, 0xBD, 0xBE, 0xBF].map first =
      [some .oraB, some .oraC, some .oraD, some .oraE, some .oraH, some .oraL, some .oraM, some .oraA, some .cmpB,
       some .cmpC, some .cmpD, some .cmpE, some .cmpH, some .cmpL, some .cmpM, some .cmpA] := rfl

theorem test_decode_row_C :
    [0xC0, 0xC1, 0xC2, 0xC3, 0xC4, 0xC5, 0xC6, 0xC7, 0xC8, 0xC9, 0xCA, 0xCB, 0xCC, 0xCD, 0xCE, 0xCF].map first =
      [some .rnz, some .popB, some (.jnz 0x1234), some (.jmp 0x1234), some (.cnz 0x1234), some .pushB, some (.adi 0x34),
       some .rst0, some .rz, some .ret, some (.jz 0x1234), some (.illegal 0xCB), some (.cz 0x1234), some (.call 0x1234),
       some (.aci 0x34), some .rst1] := rfl

theorem test_decode_row_D :
    [0xD0, 0xD1, 0xD2, 0xD3, 0xD4, 0xD5, 0xD6, 0xD7, 0xD8, 0xD9, 0xDA, 0xDB, 0xDC, 0xDD, 0xDE, 0xDF].map first =
      [some .rnc, some .popD, some (.jnc 0x1234), some (.out 0x34), some (.cnc 0x1234), some .pushD, some (.sui 0x34),
       some .rst2, some .rc, some (.illegal 0xD9), some (.jc 0x1234), some (.inp 0x34), some (.cc 0x1234),
       some (.illegal 0xDD), some (.sbi 0x34), some .rst3] := rfl

theorem test_decode_row_E :
    [0xE0, 0xE1, 0xE2, 0xE3, 0xE4, 0xE5, 0xE6, 0xE7, 0xE8, 0xE9, 0xEA, 0xEB, 0xEC, 0xED, 0xEE, 0xEF].map first =
      [some .rpo, some .popH, some (.jpo 0x1234), some .xthl, some (.cpo 0x1234), some .pushH, some (.ani 0x34),
       some .rst4, some .rpe, some .pchl, some (.jpe 0x1234), some .xchg, some (.cpe 0x1234), some (.illegal 0xED),
       some (.xri 0x34), some .rst5] := rfl

theorem test_decode_row_F :
    [0xF0, 0xF1, 0xF2, 0xF3, 0xF4, 0xF5, 0xF6, 0xF7, 0xF8, 0xF9, 0xFA, 0xFB, 0xFC, 0xFD, 0xFE, 0xFF].map first =
      [some .rp, some .popPSW, some (.jp 0x1234), some .di, some (.cp 0x1234), some .pushPSW, some (.ori 0x34),
       some .rst6, some .rm, some .sphl, some (.jm 0x1234), some .ei, some (.cm 0x1234), some (.illegal 0xFD),
       some (.cpi 0x34), some .rst7] := rfl

/-- R100: an instruction whose bytes end early is refused. -/
theorem test_decode_truncated :
    decode [] = .refused (.truncated 1) ∧ decode [0xC3, 0x00] = .refused (.truncated 3) ∧ decode [0xDB] = .refused (.truncated 2) :=
  ⟨rfl, rfl, rfl⟩

/-- R101, R103: the operand's low byte first, and the bytes after the instruction left over. -/
theorem test_decode_rest : decode [0x3A, 0x34, 0x12, 0x76] = .instr (.lda 0x1234) [0x76] := rfl

/-- Words numbered as the opcode table numbers them, the bits above `nbits` zero. -/
theorem test_decode_table_word :
    decodeTableWord 24 0x1234C3 = some (.jmp 0x1234) ∧ decodeTableWord 16 0x0136 = some (.mviM 0x01)
      ∧ decodeTableWord 8 0xFF21 = some (.lxiH 0) ∧ decodeTableWord 8 0xED = some (.illegal 0xED) := ⟨rfl, rfl, rfl, rfl⟩

/-- The word placed is the word run. -/
theorem test_with_fetch_word :
    after (State.reset.withFetchWord 24 0x1234C3) (·.pc) = some 0x1234
      ∧ after (State.reset.withFetchWord 16 0x7F3E) (·.regs.a) = some 0x7F := ⟨rfl, rfl⟩

/-! ### V1, V2, V4: 8-bit arithmetic and logic -/

/-- A and the flags after the ALU operation of an opcode on A and B, with CY as given: each row A, B, CY. -/
def aluStep (op : Byte) (r : Byte × Byte × Bool) : Option (Byte × Flags) :=
  after { code [op] with
    regs := { State.reset.regs with a := r.1, b := r.2.1 }, flags := { State.reset.flags with cy := r.2.2 } }
    (fun t => (t.regs.a, t.flags))

theorem test_v1_add :
    [(0x00, 0x00, false), (0x3C, 0x01, false), (0x0F, 0x01, false), (0x7F, 0x01, false), (0x80, 0x80, false),
     (0xFF, 0x01, false), (0xFF, 0xFF, true), (0x2E, 0x74, false)].map (aluStep 0x80) =
      [some (0x00, fl 1 0 1 0 0), some (0x3D, fl 0 0 0 0 0), some (0x10, fl 0 0 0 0 1), some (0x80, fl 0 1 0 0 1),
       some (0x00, fl 1 0 1 1 0), some (0x00, fl 1 0 1 1 1), some (0xFE, fl 0 1 0 1 1), some (0xA2, fl 0 1 0 0 1)] := rfl

theorem test_v1_adc :
    [(0x3C, 0x03, true), (0x00, 0xFF, true), (0xFF, 0x00, true), (0x0E, 0x01, true), (0x7F, 0x00, true),
     (0x12, 0x34, false)].map (aluStep 0x88) =
      [some (0x40, fl 0 0 0 0 1), some (0x00, fl 1 0 1 1 1), some (0x00, fl 1 0 1 1 1), some (0x10, fl 0 0 0 0 1),
       some (0x80, fl 0 1 0 0 1), some (0x46, fl 0 0 0 0 0)] := rfl

theorem test_v1_sub :
    [(0x3E, 0x3E, false), (0x00, 0x01, false), (0x10, 0x01, false), (0x80, 0x01, false), (0x05, 0x06, false),
     (0xFF, 0xFF, true), (0x3E, 0x0F, false)].map (aluStep 0x90) =
      [some (0x00, fl 1 0 1 0 0), some (0xFF, fl 0 1 1 1 1), some (0x0F, fl 0 0 1 0 1), some (0x7F, fl 0 0 0 0 1),
       some (0xFF, fl 0 1 1 1 1), some (0x00, fl 1 0 1 0 0), some (0x2F, fl 0 0 0 0 1)] := rfl

theorem test_v1_sbb :
    [(0x04, 0x02, true), (0x00, 0x00, true), (0x00, 0xFF, true), (0x10, 0x0F, true), (0x10, 0x0F, false),
     (0x80, 0x7F, true)].map (aluStep 0x98) =
      [some (0x01, fl 0 0 0 0 0), some (0xFF, fl 0 1 1 1 1), some (0x00, fl 1 0 1 1 1), some (0x00, fl 1 0 1 0 1),
       some (0x01, fl 0 0 0 0 1), some (0x00, fl 1 0 1 0 1)] := rfl

theorem test_v1_ana :
    [(0x3C, 0x1F, false), (0xFC, 0x0F, true), (0xF0, 0x0F, true), (0xFF, 0x10, false), (0x08, 0x08, false),
     (0x80, 0xFF, false)].map (aluStep 0xA0) =
      [some (0x1C, fl 0 0 0 0 1), some (0x0C, fl 0 0 1 0 0), some (0x00, fl 1 0 1 0 0), some (0x10, fl 0 0 0 0 1),
       some (0x08, fl 0 0 0 0 0), some (0x80, fl 0 1 0 0 0)] := rfl

theorem test_v1_xra :
    [(0x5C, 0x78, true), (0xFF, 0xFF, true), (0x00, 0x80, false), (0x0F, 0xF1, false)].map (aluStep 0xA8) =
      [some (0x24, fl 0 0 1 0 0), some (0x00, fl 1 0 1 0 0), some (0x80, fl 0 1 0 0 0), some (0xFE, fl 0 1 0 0 0)] := rfl

theorem test_v1_ora :
    [(0x33, 0x0F, true), (0x00, 0x00, true), (0x80, 0x01, false), (0x10, 0x08, false)].map (aluStep 0xB0) =
      [some (0x3F, fl 0 0 1 0 0), some (0x00, fl 1 0 1 0 0), some (0x81, fl 0 1 1 0 0), some (0x18, fl 0 0 1 0 0)] := rfl

theorem test_v1_cmp :
    [(0x0A, 0x05, false), (0x05, 0x0A, false), (0x42, 0x42, true), (0x00, 0x01, false), (0x80, 0x7F, false),
     (0x10, 0x01, false)].map (aluStep 0xB8) =
      [some (0x0A, fl 0 0 1 0 0), some (0x05, fl 0 1 0 1 1), some (0x42, fl 1 0 1 0 0), some (0x00, fl 0 1 1 1 1),
       some (0x80, fl 0 0 0 0 1), some (0x10, fl 0 0 1 0 1)] := rfl

/-- The immediate and the memory form take the operand from the byte after the opcode and from H:L (V1). -/
theorem test_v1_immediate_and_memory :
    after { code [0xC6, 0x01] with regs := { State.reset.regs with a := 0x3C } } (fun t => (t.regs.a, t.flags, t.pc))
        = some (0x3D, fl 0 0 0 0 0, 0x0102)
      ∧ after { code [0xBE] with regs := { State.reset.regs with a := 0xBE, h := 0x01 } } (fun t => (t.regs.a, t.flags.z, t.pc))
        = some (0xBE, true, 0x0101) := ⟨rfl, rfl⟩

/-- A and the flags after INR A or DCR A, CY set before. -/
def stepA (op a : Byte) : Option (Byte × Flags) :=
  after { code [op] with regs := { State.reset.regs with a := a }, flags := fl 0 0 0 1 0 } (fun t => (t.regs.a, t.flags))

theorem test_v2_inr :
    [0x00, 0x01, 0x0F, 0x10, 0x7F, 0x80, 0xFE, 0xFF].map (stepA 0x3C) =
      [some (0x01, fl 0 0 0 1 0), some (0x02, fl 0 0 0 1 0), some (0x10, fl 0 0 0 1 1), some (0x11, fl 0 0 1 1 0),
       some (0x80, fl 0 1 0 1 1), some (0x81, fl 0 1 1 1 0), some (0xFF, fl 0 1 1 1 0), some (0x00, fl 1 0 1 1 1)] := rfl

theorem test_v2_dcr :
    [0x00, 0x01, 0x0F, 0x10, 0x7F, 0x80, 0xFE, 0xFF].map (stepA 0x3D) =
      [some (0xFF, fl 0 1 1 1 1), some (0x00, fl 1 0 1 1 0), some (0x0E, fl 0 0 0 1 0), some (0x0F, fl 0 0 1 1 1),
       some (0x7E, fl 0 0 1 1 0), some (0x7F, fl 0 0 0 1 1), some (0xFD, fl 0 1 0 1 0), some (0xFE, fl 0 1 0 1 0)] := rfl

/-- INR M and DCR M (V2): the byte at H:L. -/
theorem test_v2_memory :
    after { codeAt 0x2000 [0xFF, 0x34] with regs := { State.reset.regs with h := 0x20 }, pc := 0x2001 }
        (fun t => (t.read 0x2000, t.flags)) = some (0x00, fl 1 0 1 0 1)
      ∧ after { codeAt 0x2000 [0x00, 0x35] with regs := { State.reset.regs with h := 0x20 }, pc := 0x2001 }
        (fun t => (t.read 0x2000, t.flags)) = some (0xFF, fl 0 1 1 0 1) := ⟨rfl, rfl⟩

/-- A and the flags after DAA: each row A, AC, CY. -/
def daaStep (r : Byte × Bool × Bool) : Option (Byte × Flags) :=
  after { code [0x27] with regs := { State.reset.regs with a := r.1 }, flags := ⟨false, false, false, r.2.2, r.2.1⟩ }
    (fun t => (t.regs.a, t.flags))

theorem test_v4_daa :
    [(0x7D, false, false), (0x9A, false, false), (0xFA, false, false), (0x99, false, false), (0x00, false, false),
     (0x09, true, false), (0x0A, false, false), (0x80, true, true), (0x15, false, true), (0x9F, false, false),
     (0x3C, false, false), (0xA0, false, false)].map daaStep =
      [some (0x83, fl 0 1 0 0 0), some (0x00, fl 1 0 1 1 0), some (0x60, fl 0 0 1 1 0), some (0x99, fl 0 1 1 0 0),
       some (0x00, fl 1 0 1 0 0), some (0x0F, fl 0 0 1 0 1), some (0x10, fl 0 0 0 0 0), some (0xE6, fl 0 1 0 1 1),
       some (0x75, fl 0 0 0 1 0), some (0x05, fl 0 0 1 1 0), some (0x42, fl 0 0 1 0 0), some (0x00, fl 1 0 1 1 0)] := rfl

/-! ### V3, V5, V6: pairs, complement and carry, rotates -/

/-- INX and DCX at the ends of the range (V3); no flag, though the pair is 0. -/
theorem test_v3_inx_dcx :
    after { code [0x03] with regs := { State.reset.regs with b := 0xFF, c := 0xFF } } (fun t => (t.pair .bc, t.flags))
        = some (0x0000, fl 0 0 0 0 0)
      ∧ after { code [0x13] with regs := { State.reset.regs with d := 0x12, e := 0xFF } } (·.pair .de) = some 0x1300
      ∧ after { code [0x33] with sp := 0xFFFF } (·.sp) = some 0x0000
      ∧ after (code [0x2B]) (·.pair .hl) = some 0xFFFF ∧ after (code [0x3B]) (·.sp) = some 0xFFFF :=
  ⟨rfl, rfl, rfl, rfl, rfl⟩

/-- DAD (V3): CY written, no other flag. -/
theorem test_v3_dad :
    after { code [0x09] with regs := { State.reset.regs with h := 0x12, l := 0x34, b := 0x11, c := 0x11 } }
        (fun t => (t.pair .hl, t.flags)) = some (0x2345, fl 0 0 0 0 0)
      ∧ after { code [0x29] with regs := { State.reset.regs with h := 0x80 } } (fun t => (t.pair .hl, t.flags))
        = some (0x0000, fl 0 0 0 1 0)
      ∧ after { code [0x29] with regs := { State.reset.regs with h := 0x40, l := 0x01 }, flags := fl 1 0 0 1 1 }
        (fun t => (t.pair .hl, t.flags)) = some (0x8002, fl 1 0 0 0 1)
      ∧ after { code [0x39] with regs := { State.reset.regs with l := 0x10 }, sp := 0x23F0 } (·.pair .hl) = some 0x2400 :=
  ⟨rfl, rfl, rfl, rfl⟩

/-- CMA, CMC, STC (V5). -/
theorem test_v5 :
    after { code [0x2F] with regs := { State.reset.regs with a := 0xA5 }, flags := fl 1 0 0 1 0 } (fun t => (t.regs.a, t.flags))
        = some (0x5A, fl 1 0 0 1 0)
      ∧ after { code [0x3F] with flags := fl 1 0 0 0 0 } (·.flags) = some (fl 1 0 0 1 0)
      ∧ after { code [0x3F] with flags := fl 0 0 0 1 0 } (·.flags) = some (fl 0 0 0 0 0)
      ∧ after { code [0x37] with flags := fl 0 0 0 0 1 } (·.flags) = some (fl 0 0 0 1 1) := ⟨rfl, rfl, rfl, rfl⟩

/-- A and CY after a rotate: each row A, CY. -/
def rotateStep (op : Byte) (r : Byte × Bool) : Option (Byte × Bool) :=
  after { code [op] with regs := { State.reset.regs with a := r.1 }, flags := { State.reset.flags with cy := r.2 } }
    (fun t => (t.regs.a, t.flags.cy))

theorem test_v6_rlc :
    [(0x00, false), (0x00, true), (0x01, false), (0x01, true), (0x80, false), (0x80, true), (0xFF, false), (0xFF, true),
     (0xF2, false), (0xF2, true), (0xB5, false), (0xB5, true), (0x6A, false), (0x6A, true)].map (rotateStep 0x07) =
      [some (0x00, false), some (0x00, false), some (0x02, false), some (0x02, false), some (0x01, true),
       some (0x01, true), some (0xFF, true), some (0xFF, true), some (0xE5, true), some (0xE5, true), some (0x6B, true),
       some (0x6B, true), some (0xD4, false), some (0xD4, false)] := rfl

theorem test_v6_rrc :
    [(0x00, false), (0x00, true), (0x01, false), (0x01, true), (0x80, false), (0x80, true), (0xFF, false), (0xFF, true),
     (0xF2, false), (0xF2, true), (0xB5, false), (0xB5, true), (0x6A, false), (0x6A, true)].map (rotateStep 0x0F) =
      [some (0x00, false), some (0x00, false), some (0x80, true), some (0x80, true), some (0x40, false),
       some (0x40, false), some (0xFF, true), some (0xFF, true), some (0x79, false), some (0x79, false),
       some (0xDA, true), some (0xDA, true), some (0x35, false), some (0x35, false)] := rfl

theorem test_v6_ral :
    [(0x00, false), (0x00, true), (0x01, false), (0x01, true), (0x80, false), (0x80, true), (0xFF, false), (0xFF, true),
     (0xF2, false), (0xF2, true), (0xB5, false), (0xB5, true), (0x6A, false), (0x6A, true)].map (rotateStep 0x17) =
      [some (0x00, false), some (0x01, false), some (0x02, false), some (0x03, false), some (0x00, true),
       some (0x01, true), some (0xFE, true), some (0xFF, true), some (0xE4, true), some (0xE5, true), some (0x6A, true),
       some (0x6B, true), some (0xD4, false), some (0xD5, false)] := rfl

theorem test_v6_rar :
    [(0x00, false), (0x00, true), (0x01, false), (0x01, true), (0x80, false), (0x80, true), (0xFF, false), (0xFF, true),
     (0xF2, false), (0xF2, true), (0xB5, false), (0xB5, true), (0x6A, false), (0x6A, true)].map (rotateStep 0x1F) =
      [some (0x00, false), some (0x80, false), some (0x00, true), some (0x80, true), some (0x40, false),
       some (0xC0, false), some (0x7F, true), some (0xFF, true), some (0x79, false), some (0xF9, false),
       some (0x5A, true), some (0xDA, true), some (0x35, false), some (0xB5, false)] := rfl

/-! ### V7: data movement and the stack -/

theorem test_v7_moves :
    after { codeAt 0x2000 [0x30, 0x66] with regs := { State.reset.regs with h := 0x20 }, pc := 0x2001 } (·.pair .hl) = some 0x3000
      ∧ after { code [0x75] with regs := { State.reset.regs with h := 0x20, l := 0x40 } } (·.read 0x2040) = some 0x40
      ∧ after (code [0x36, 0xFF]) (fun t => (t.read 0x0000, t.pc)) = some (0xFF, 0x0102)
      ∧ after (codeAt 0xFFFE [0x01, 0xFF, 0x12]) (fun t => (t.pair .bc, t.pc)) = some (0x12FF, 0x0001)
      ∧ after { code [0xEB] with regs := { State.reset.regs with d := 0x12, e := 0x34, h := 0x56, l := 0x78 } }
        (fun t => (t.pair .de, t.pair .hl)) = some (0x5678, 0x1234) := ⟨rfl, rfl, rfl, rfl, rfl⟩

theorem test_v7_direct :
    after { codeAt 0xFFFF [0x77, 0x3A, 0xFF, 0xFF] with pc := 0x0000 } (·.regs.a) = some 0x77
      ∧ after { code [0x32, 0x00, 0x00] with regs := { State.reset.regs with a := 0x9C } } (·.read 0x0000) = some 0x9C
      ∧ after { codeAt 0xFFFF [0x34, 0x12, 0x2A, 0xFF, 0xFF] with pc := 0x0001 } (fun t => (t.regs.l, t.regs.h)) = some (0x34, 0x12)
      ∧ after { code [0x22, 0xFF, 0xFF] with regs := { State.reset.regs with h := 0xAB, l := 0xCD } }
        (fun t => (t.read 0xFFFF, t.read 0x0000)) = some (0xCD, 0xAB)
      ∧ after { codeAt 0x3000 [0x42, 0x1A] with regs := { State.reset.regs with d := 0x30 }, pc := 0x3001 } (·.regs.a) = some 0x42
      ∧ after { code [0x12] with regs := { State.reset.regs with a := 0x24, d := 0x30, e := 0x01 } } (·.read 0x3001) = some 0x24 :=
  ⟨rfl, rfl, rfl, rfl, rfl, rfl⟩

theorem test_v7_push :
    after { code [0xC5] with regs := { State.reset.regs with b := 0x12, c := 0x34 } }
        (fun t => (t.read 0xFFFF, t.read 0xFFFE, t.sp)) = some (0x12, 0x34, 0xFFFE)
      ∧ after { code [0xD5] with regs := { State.reset.regs with d := 0xDE, e := 0xAD }, sp := 0x0001 }
        (fun t => (t.read 0x0000, t.read 0xFFFF, t.sp)) = some (0xDE, 0xAD, 0xFFFF)
      ∧ after { code [0xF5] with regs := { State.reset.regs with a := 0xFF }, sp := 0x2400, flags := fl 1 1 1 1 1 }
        (fun t => (t.read 0x23FF, t.read 0x23FE)) = some (0xFF, 0xD7)
      ∧ after { code [0xF5] with regs := { State.reset.regs with a := 0x01 }, sp := 0x2400, flags := fl 1 0 1 0 0 }
        (fun t => (t.read 0x23FF, t.read 0x23FE)) = some (0x01, 0x46) := ⟨rfl, rfl, rfl, rfl⟩

theorem test_v7_pop :
    after { codeAt 0x23FE [0x28, 0x11, 0xF1] with sp := 0x23FE, pc := 0x2400 } (fun t => (t.regs.a, t.flags, t.sp))
        = some (0x11, fl 0 0 0 0 0, 0x2400)
      ∧ after { codeAt 0x23FE [0xD7, 0x00, 0xF1] with sp := 0x23FE, pc := 0x2400 } (·.flags) = some (fl 1 1 1 1 1)
      ∧ after { codeAt 0xFFFE [0x34, 0x12, 0xE1] with sp := 0xFFFE, pc := 0x0000 } (fun t => (t.pair .hl, t.sp))
        = some (0x1234, 0x0000)
      ∧ after { codeAt 0x10AD [0xF0, 0x0D, 0xE3] with sp := 0x10AD, pc := 0x10AF, regs := { State.reset.regs with h := 0x0B, l := 0x3C } }
        (fun t => (t.pair .hl, t.read 0x10AD, t.read 0x10AE, t.sp)) = some (0x0DF0, 0x3C, 0x0B, 0x10AD)
      ∧ after { code [0xF9] with regs := { State.reset.regs with h := 0x50, l := 0x6C } } (·.sp) = some 0x506C :=
  ⟨rfl, rfl, rfl, rfl, rfl⟩

/-! ### V8: control transfer -/

/-- PC after a conditional jump to 0x0200 at 0x0100, with the flags all 0 and all 1. -/
def jumpStep (op : Byte) : Option Word × Option Word :=
  (after (code [op, 0x00, 0x02]) (·.pc), after { code [op, 0x00, 0x02] with flags := fl 1 1 1 1 1 } (·.pc))

theorem test_v8_jumps :
    [0xC2, 0xCA, 0xD2, 0xDA, 0xE2, 0xEA, 0xF2, 0xFA].map jumpStep =
      [(some 0x0200, some 0x0103), (some 0x0103, some 0x0200), (some 0x0200, some 0x0103), (some 0x0103, some 0x0200),
       (some 0x0200, some 0x0103), (some 0x0103, some 0x0200), (some 0x0200, some 0x0103), (some 0x0103, some 0x0200)] := rfl

/-- Each condition reads its own flag: JZ, JC, JPE, JM with that flag alone set (V8). -/
theorem test_v8_own_flag :
    after { code [0xCA, 0x00, 0x02] with flags := fl 1 0 0 0 0 } (·.pc) = some 0x0200
      ∧ after { code [0xDA, 0x00, 0x02] with flags := fl 0 0 0 1 0 } (·.pc) = some 0x0200
      ∧ after { code [0xEA, 0x00, 0x02] with flags := fl 0 0 1 0 0 } (·.pc) = some 0x0200
      ∧ after { code [0xFA, 0x00, 0x02] with flags := fl 0 1 0 0 0 } (·.pc) = some 0x0200 := ⟨rfl, rfl, rfl, rfl⟩

theorem test_v8_calls :
    after { code [0xC4, 0x00, 0x02] with sp := 0x2400 } (fun t => (t.pc, t.sp, t.read 0x23FE, t.read 0x23FF))
        = some (0x0200, 0x23FE, 0x03, 0x01)
      ∧ after { code [0xC4, 0x00, 0x02] with sp := 0x2400, flags := fl 1 0 0 0 0 } (fun t => (t.pc, t.sp)) = some (0x0103, 0x2400)
      ∧ after { code [0xFC, 0x00, 0x02] with sp := 0x2400 } (fun t => (t.pc, t.sp)) = some (0x0103, 0x2400)
      ∧ after { codeAt 0xFFFD [0xCD, 0x34, 0x12] with sp := 0x2400 } (fun t => (t.pc, t.sp, t.top)) = some (0x1234, 0x23FE, 0x0000) :=
  ⟨rfl, rfl, rfl, rfl⟩

theorem test_v8_returns :
    after { codeAt 0x23FE [0x03, 0x01, 0xD0] with sp := 0x23FE, pc := 0x2400 } (fun t => (t.pc, t.sp)) = some (0x0103, 0x2400)
      ∧ after { codeAt 0x23FE [0x03, 0x01, 0xD0] with sp := 0x23FE, pc := 0x2400, flags := fl 0 0 0 1 0 } (fun t => (t.pc, t.sp))
        = some (0x2401, 0x23FE)
      ∧ after { code [0xC9] with sp := 0xFFFF } (fun t => (t.pc, t.sp)) = some (0x0000, 0x0001)
      ∧ after { code [0xE9] with regs := { State.reset.regs with h := 0xFF, l := 0xFF } } (·.pc) = some 0xFFFF
      ∧ after (codeAt 0xFFFD [0xC3, 0x00, 0x00]) (·.pc) = some 0x0000 := ⟨rfl, rfl, rfl, rfl, rfl⟩

theorem test_v8_restarts :
    [0xC7, 0xCF, 0xD7, 0xDF, 0xE7, 0xEF, 0xF7, 0xFF].map
      (fun op => after { codeAt 0x0345 [op] with sp := 0x2400, ie := true } (fun t => (t.pc, t.top, t.sp, t.ie))) =
      [0x0000, 0x0008, 0x0010, 0x0018, 0x0020, 0x0028, 0x0030, 0x0038].map (fun a => some (a, 0x0346, 0x23FE, true)) := rfl

/-! ### V9: ports -/

theorem test_v9_shift_result :
    [0, 1, 2, 3, 4, 5, 6, 7].map (fun k => PortState.shiftResult ⟨0xCD, 0xAB, k, 0⟩) =
      [0xAB, 0x57, 0xAF, 0x5E, 0xBC, 0x79, 0xF3, 0xE6] := rfl

theorem test_v9_ports :
    after { code [0xD3, 0x04] with regs := { State.reset.regs with a := 0xAA }, ports := ⟨0x00, 0xFF, 0, 0⟩ } (·.ports)
        = some ⟨0xFF, 0xAA, 0, 0⟩
      ∧ after { code [0xD3, 0x02] with regs := { State.reset.regs with a := 0xFB } } (·.ports) = some ⟨0, 0, 3, 0⟩
      ∧ after { code [0xD3, 0x06] with regs := { State.reset.regs with a := 0xFB } } (·.ports) = some ⟨0, 0, 0, 0⟩
      ∧ after { code [0xDB, 0x03] with ports := ⟨0xFF, 0xAA, 3, 0x51⟩ } (·.regs.a) = some 0x57
      ∧ after { code [0xDB, 0x01] with ports := ⟨0xFF, 0xAA, 3, 0x51⟩ } (·.regs.a) = some 0x51
      ∧ after { code [0xDB, 0x02] with ports := ⟨0xFF, 0xAA, 3, 0x51⟩ } (·.regs.a) = some 0x00 :=
  ⟨rfl, rfl, rfl, rfl, rfl, rfl⟩

/-! ### V10: interrupts, halt and faults; the host -/

theorem test_v10_raise :
    afterRaise 1 { State.reset with pc := 0x1234, sp := 0x2400, ie := true, halted := true }
        (fun t => (t.pc, t.sp, t.read 0x23FF, t.read 0x23FE, t.ie, t.halted)) = some (0x0008, 0x23FE, 0x12, 0x34, false, false)
      ∧ afterRaise 7 { State.reset with pc := 0x0042, sp := 0x0001, ie := true } (fun t => (t.pc, t.read 0xFFFF, t.sp))
        = some (0x0038, 0x42, 0xFFFF)
      ∧ raise 1 { State.reset with pc := 0x1234 } = .next { State.reset with pc := 0x1234 }
      ∧ raise 8 State.reset = .refused (.vectorOutOfRange 8) := ⟨rfl, rfl, rfl, rfl⟩

theorem test_v10_control :
    after (code [0xFB]) (fun t => (t.ie, t.pc)) = some (true, 0x0101)
      ∧ after { code [0xF3] with ie := true } (fun t => (t.ie, t.pc)) = some (false, 0x0101)
      ∧ after (code [0x76]) (fun t => (t.halted, t.pc)) = some (true, 0x0101)
      ∧ after { code [0x3C] with halted := true } (fun t => (t.halted, t.pc, t.regs.a)) = some (true, 0x0100, 0)
      ∧ after (code [0x00]) (fun t => (t.pc, t.flags)) = some (0x0101, fl 0 0 0 0 0) := ⟨rfl, rfl, rfl, rfl, rfl⟩

theorem test_v10_illegal :
    [0x08, 0x10, 0x18, 0x20, 0x28, 0x30, 0x38, 0xCB, 0xD9, 0xDD, 0xED, 0xFD].map (fun op => step (codeAt 0x0200 [op])) =
      [0x08, 0x10, 0x18, 0x20, 0x28, 0x30, 0x38, 0xCB, 0xD9, 0xDD, 0xED, 0xFD].map
        (fun op => .fault (.unimplementedInstruction op 0x0200)) := rfl

/-- R818 with a budget of 24 on L6's program: LXI 10, EI 4, JMP 10, then `raise` with vector 1 and the toggle. -/
theorem test_l6_frame :
    (match runFrame { Config.defaultParams with frameBudget := 24 } (codeAt 0 [0x31, 0x00, 0x24, 0xFB, 0xC3, 0x04, 0x00]) with
      | .done t => some (t.pc, t.sp, t.top, t.ie, t.driver)
      | _ => none) = some (0x0008, 0x23FE, 0x0004, false, ⟨24, .two⟩) := rfl

/-- R816: bit 0 coin, bit 2 start, bit 4 fire, bit 5 left, bit 6 right (the example 0x51 is V9's). -/
theorem test_input_bits :
    (((State.reset.setInput .coin true).setInput .fire true).setInput .right true).ports.inPort1 = 0x51
      ∧ ((State.reset.setInput .start1 true).setInput .left true).ports.inPort1 = 0x24
      ∧ ((State.reset.setInput .fire true).setInput .fire false).ports.inPort1 = 0x00 := ⟨rfl, rfl, rfl⟩

/-- R904, D32: the launch of a harness, its stop, and a console call it handles in place of a step. -/
theorem test_cpudiag_harness :
    (match (CpudiagHarness.mk 0x0100 [0x76] (fun _ => none)).launch [0xC3, 0xE0, 0x06] with
      | .next t => some (t.pc, t.sp, t.read 0x0000, t.read 0x0100)
      | _ => none) = some (0x0100, 0x2400, 0x76, 0xC3)
      ∧ (match (CpudiagHarness.mk 0x0100 [] (fun _ => none)).selfTest [0xC3, 0xE0, 0x06] 1 with
        | .stopped t => some t.pc
        | _ => none) = some 0x06E0
      ∧ (match (CpudiagHarness.mk 0x0100 [] (fun s => if s.pc == 0x0100 then some { s with pc := 0x06E0 } else none)).selfTest [0x08] 1 with
        | .stopped t => some t.pc
        | _ => none) = some 0x06E0
      ∧ (match (CpudiagHarness.mk 0x0100 [] (fun _ => none)).selfTest [0x08] 1 with
        | .faulted t _ => t.fault
        | _ => none) = some ⟨0x08, 0x0100⟩ := ⟨rfl, rfl, rfl, rfl⟩

/-- R6, U14: the other FIRST_VECTOR raises vector 2 first, and an INIT_MEM is the memory of the launch. -/
theorem test_launch_parameters :
    (match runFrame { Config.defaultParams with frameBudget := 4 } (State.launch .two [(0, 0xFB)]) with
      | .done t => some (t.pc, t.top, t.driver)
      | _ => none) = some (0x0010, 0x0001, ⟨4, .one⟩) := rfl

/-- An image that ends past the memory is refused (log 8). -/
theorem test_load_past_the_end : State.reset.loadImage 0xFFFF [1, 2] = .refused (.imageOutOfRange 0xFFFF 2) := rfl

/-! ### Witnesses: a state and operands that meet the hypotheses of a statement together -/

/-- DecodeGivesBackEncoded, at the highest operand and at an illegal opcode. -/
theorem witness_decode_gives_back_encoded :
    (Instr.jmp 0xFFFF).wellFormed = true ∧ decode (encode (.jmp 0xFFFF) ++ [0x76]) = .instr (.jmp 0xFFFF) [0x76]
      ∧ (Instr.illegal 0xFD).wellFormed = true ∧ decode (encode (.illegal 0xFD) ++ []) = .instr (.illegal 0xFD) [] :=
  ⟨rfl, rfl, rfl, rfl⟩

/-- EncodeGivesBackDecoded. -/
theorem witness_encode_gives_back_decoded :
    decode [0xDB, 0xFF, 0x08] = .instr (.inp 0xFF) [0x08] ∧ encode (.inp 0xFF) ++ [0x08] = [0xDB, 0xFF, 0x08] := ⟨rfl, rfl⟩

/-- LengthFollowsOpcode, at an opcode of each length. -/
theorem witness_length_follows_opcode :
    (0xD3 : Byte) ∉ illegalOpcodes ∧ (encode (decodeBytes 0xD3 0xFF 0xFF)).length = 2
      ∧ (0xFC : Byte) ∉ illegalOpcodes ∧ (encode (decodeBytes 0xFC 0xFF 0xFF)).length = 3
      ∧ (0xFF : Byte) ∉ illegalOpcodes ∧ (encode (decodeBytes 0xFF 0xFF 0xFF)).length = 1 := by decide

/-- StepRunsDecodedInstruction, with operand bytes that wrap past 0xFFFF. -/
theorem witness_step_runs_decoded (s : State) (h : s = codeAt 0xFFFE [0xC3, 0x34, 0x12]) :
    s.fault = none ∧ s.halted = false
      ∧ decode [s.read s.pc, s.read (s.pc + 1), s.read (s.pc + 2)] = .instr (.jmp 0x1234) [] := by subst h; exact ⟨rfl, rfl, rfl⟩

/-- OnlyTheIllegalOpcodeFaults, both clauses. -/
theorem witness_only_the_illegal_opcode :
    (∀ op, Instr.nop ≠ .illegal op) ∧ exec (.illegal 0x08) State.reset = .fault (.unimplementedInstruction 0x08 0) :=
  ⟨fun _ => Instr.noConfusion, rfl⟩

/-- IllegalOpcodeStopsTheBlock, both clauses, the second at vector 7. -/
theorem witness_illegal_opcode_stops :
    (codeAt 0xFFFF [0xFD]).fault = none ∧ (codeAt 0xFFFF [0xFD]).halted = false
      ∧ (codeAt 0xFFFF [0xFD]).read (codeAt 0xFFFF [0xFD]).pc ∈ illegalOpcodes
      ∧ step { State.reset with fault := some ⟨0x08, 0⟩, ie := true } = .fault (.stopped 0x08 0)
      ∧ raise 7 { State.reset with fault := some ⟨0x08, 0⟩, ie := true }
        = .next { State.reset with fault := some ⟨0x08, 0⟩, ie := true } := ⟨rfl, rfl, by decide, rfl, rfl⟩

/-- HaltedBlockIdles, with IE false over a step and an interrupt call, and with IE true at vector 7. -/
theorem witness_halted_block_idles :
    ({ State.reset with halted := true }).fault = none ∧ ({ State.reset with halted := true }).ie = false
      ∧ hostMoves [none, some 7, none] { State.reset with halted := true } = .next { State.reset with halted := true }
      ∧ ({ State.reset with halted := true, ie := true }).fault = none
      ∧ afterRaise 7 { State.reset with halted := true, ie := true, pc := 0x0013 } (fun t => (t.halted, t.pc, t.top))
        = some (false, 0x0038, 0x0013) := ⟨rfl, rfl, rfl, rfl, rfl⟩

/-- StepKeepsInvariant, at a step that stores. -/
theorem witness_step_keeps_invariant :
    (code [0x36, 0xFF]).Inv ∧ step (code [0x36, 0xFF]) = exec (.mviM 0xFF) (code [0x36, 0xFF])
      ∧ after (code [0x36, 0xFF]) (·.mem) = some [(0, 0xFF), (0x100, 0x36), (0x101, 0xFF)] := ⟨⟨rfl, rfl⟩, rfl, rfl⟩

/-- HostKeepsInvariant, each clause: a delivered interrupt, an image that reaches the last byte, a frame that ends. -/
theorem witness_host_keeps_invariant :
    ({ State.reset with ie := true }).Inv
      ∧ afterRaise 7 { State.reset with ie := true, pc := 0x1234 } (·.mem) = some [(0xFFFE, 0x34), (0xFFFF, 0x12)]
      ∧ State.reset.Inv ∧ (∃ t, State.reset.loadImage 0xFFFF [0x55] = .next t)
      ∧ (∃ t, runFrame { Config.defaultParams with frameBudget := 5 } State.reset = .done t) :=
  ⟨⟨rfl, rfl⟩, rfl, ⟨rfl, rfl⟩, ⟨_, rfl⟩, ⟨_, rfl⟩⟩

/-- SystemStateWriters: each premise met by the instruction it names. -/
theorem witness_system_state_writers :
    (exec .ei State.reset = .next { State.reset with ie := true, pc := 1 })
      ∧ (exec .di { State.reset with ie := true } = .next { State.reset with pc := 1 })
      ∧ (exec .hlt State.reset = .next { State.reset with halted := true, pc := 1 })
      ∧ (exec (.out 4) { State.reset with regs := ⟨1, 0, 0, 0, 0, 0, 0⟩ }
        = .next { State.reset with regs := ⟨1, 0, 0, 0, 0, 0, 0⟩, ports := ⟨0, 1, 0, 0⟩, pc := 2 })
      ∧ (exec (.out 2) { State.reset with regs := ⟨7, 0, 0, 0, 0, 0, 0⟩ }
        = .next { State.reset with regs := ⟨7, 0, 0, 0, 0, 0, 0⟩, ports := ⟨0, 0, 7, 0⟩, pc := 2 }) := ⟨rfl, rfl, rfl, rfl, rfl⟩

/-- FlagWriters: POP B writes no flag, and completes. -/
theorem witness_flag_writers :
    ¬ WritesFlags .popB ∧ (∃ t, exec .popB { State.reset with flags := fl 1 1 1 1 1 } = .next t ∧ t.flags = fl 1 1 1 1 1) := by
  refine ⟨?_, _, rfl, rfl⟩
  rintro (⟨op, o, h⟩ | ⟨d, op, h⟩ | ⟨o, h⟩ | ⟨o, h⟩ | ⟨p, h⟩ | h)
  · rcases o with r | _ <;> [cases r; skip] <;> cases op <;> cases h
  · cases op <;> cases h
  · rcases o with r | _ <;> [cases r; skip] <;> cases h
  · rcases o with r | _ <;> [cases r; skip] <;> cases h
  · cases p <;> cases h
  · revert h; decide

/-- StoresOnlyWhereTheRuleSays, at the wrapping store of SHLD and at a conditional call not taken. -/
theorem witness_stores_only_where_the_rule_says :
    storeAddresses (.shld 0xFFFF) State.reset = [0xFFFF, 0x0000] ∧ (∃ t, exec (.shld 0xFFFF) State.reset = .next t)
      ∧ storeAddresses (.cz 0) State.reset = [] ∧ exec (.cz 0) State.reset = .next { State.reset with pc := 3 } :=
  ⟨rfl, ⟨_, rfl⟩, rfl, rfl⟩

/-- ProgramCounterAdvances, at a PC that wraps. -/
theorem witness_program_counter_advances :
    ¬ Transfers (.mviA 0) ∧ (∃ t, exec (.mviA 0) { State.reset with pc := 0xFFFF } = .next t ∧ t.pc = 0x0001) :=
  ⟨fun h => h, _, rfl, rfl⟩

/-- InputLatchReachesOnlyIn1, at another port. -/
theorem witness_input_latch :
    Instr.inp 2 ≠ .inp 1
      ∧ exec (.inp 2) (State.reset.withInPort1 0xFF) = .next { State.reset.withInPort1 0xFF with pc := 2 } := ⟨by decide, rfl⟩

/-- StackGrowsDown, the two boundary clauses. -/
theorem witness_stack_wraps :
    State.reset.sp = 0x0000 ∧ (State.reset.push 0x1234).read 0xFFFF = 0x12 ∧ (State.reset.push 0x1234).read 0xFFFE = 0x34
      ∧ ({ State.reset with sp := 0xFFFF }).dropTop.sp = 0x0001 := ⟨rfl, rfl, rfl, rfl⟩

/-- ImmediateLoads and PairIncrementAndDecrement: a pair that is not SP leaves SP. -/
theorem witness_pair_not_sp :
    (Pair.bc ≠ .sp) ∧ after { code [0x03] with sp := 0xFFFF } (fun t => (t.sp, t.pair .bc)) = some (0xFFFF, 0x0001) := by decide

/-- DecimalAdditionIsDecimal, at the highest operands: 99 + 99 = 198. -/
theorem witness_decimal_addition (s : State) (h : s = { State.reset with regs := { State.reset.regs with a := 0x99 } }) :
    s.regs.a = BitVec.ofNat 8 (99 / 10 * 16 + 99 % 10)
      ∧ ∃ t u, exec (.adi (BitVec.ofNat 8 (99 / 10 * 16 + 99 % 10))) s = .next t ∧ exec .daa t = .next u
        ∧ u.regs.a = 0x98 ∧ u.flags.cy = true := by subst h; exact ⟨rfl, _, _, rfl, rfl, rfl, rfl⟩

/-- Jumps, Calls, Returns: a condition that holds and one that does not. -/
theorem witness_condition_taken_and_not :
    State.reset.flags.holds .nz = true ∧ exec (.jcc 0xFFFF .nz) State.reset = .next { State.reset with pc := 0xFFFF }
      ∧ State.reset.flags.holds .z = false ∧ exec (.jcc 0xFFFF .z) State.reset = .next { State.reset with pc := 3 }
      ∧ exec (.rcc .z) State.reset = .next { State.reset with pc := 1 }
      ∧ exec (.rcc .nz) State.reset = .next { State.reset with sp := 2 } := ⟨rfl, rfl, rfl, rfl, rfl, rfl⟩

/-- PortReads: port 0 is the open constant; 1, 3 and 255 are the other clauses. -/
theorem witness_port_reads :
    after (code [0xDB, 0x00]) (·.regs.a) = some Config.port0Value
      ∧ after { code [0xDB, 0x01] with ports := ⟨0, 0x80, 0, 0x24⟩ } (·.regs.a) = some 0x24
      ∧ after { code [0xDB, 0x03] with ports := ⟨0, 0x80, 0, 0x24⟩ } (·.regs.a) = some 0x80
      ∧ ((0xFF : Byte) ≠ 0 ∧ (0xFF : Byte) ≠ 1 ∧ (0xFF : Byte) ≠ 3)
      ∧ after { code [0xDB, 0xFF] with ports := ⟨0, 0x80, 0, 0x24⟩ } (·.regs.a) = some 0 :=
  ⟨rfl, rfl, rfl, by decide, rfl⟩

/-- PortWrites: ports 2 and 4, and 0xFF under the third clause. -/
theorem witness_port_writes :
    after { code [0xD3, 0x02] with regs := ⟨0xFF, 0, 0, 0, 0, 0, 0⟩ } (·.ports) = some ⟨0, 0, 7, 0⟩
      ∧ after { code [0xD3, 0x04] with regs := ⟨0xFF, 0, 0, 0, 0, 0, 0⟩ } (·.ports) = some ⟨0, 0xFF, 0, 0⟩
      ∧ ((0xFF : Byte) ≠ 2 ∧ (0xFF : Byte) ≠ 4)
      ∧ after { code [0xD3, 0xFF] with regs := ⟨0xFF, 0, 0, 0, 0, 0, 0⟩ } (·.ports) = some ⟨0, 0, 0, 0⟩ :=
  ⟨rfl, rfl, by decide, rfl⟩

/-- MachineControl: an interrupt right after EI. -/
theorem witness_interrupt_after_ei :
    State.reset.fault = none ∧ exec .ei State.reset = .next { State.reset with ie := true, pc := 1 }
      ∧ afterRaise 7 { State.reset with ie := true, pc := 1 } (fun t => (t.pc, t.top)) = some (0x0038, 0x0001) := ⟨rfl, rfl, rfl⟩

/-- InterruptEnableIsTheOnlyMask and InterruptEntry: both clauses, at vectors 7 and 8. -/
theorem witness_interrupt_entry :
    raise 7 State.reset = .next State.reset ∧ ({ State.reset with ie := true }).fault = none
      ∧ afterRaise 7 { State.reset with ie := true } (fun t => (t.pc, t.ie)) = some (0x0038, false)
      ∧ raise 8 { State.reset with ie := true } = .refused (.vectorOutOfRange 8) := ⟨rfl, rfl, rfl, rfl⟩

/-- InterruptThenReturn: a delivered interrupt of a halted block. -/
theorem witness_interrupt_then_return (s : State) (h : s = { State.reset with ie := true, halted := true, pc := 0x1234, sp := 0x2400 }) :
    s.fault = none ∧ s.ie = true ∧ ∃ t u, raise 2 s = .next t ∧ raise 1 t = .next t ∧ exec .ret t = .next u
      ∧ u.pc = 0x1234 ∧ u.sp = 0x2400 := by subst h; exact ⟨rfl, rfl, _, _, rfl, rfl, rfl, rfl, rfl⟩

/-- CyclesAreOfTheOpcode: NOP counts 4 by the default table. -/
theorem witness_cycles :
    State.reset.halted = false
      ∧ timedStep Config.defaultParams State.reset = .next ({ State.reset with pc := 1 }, 4) := ⟨rfl, rfl⟩

/-- RunFrameEnds: the default counts are positive; a frame with IE true raises and toggles, one with IE false ends as it is, one
faults before its budget. -/
theorem witness_run_frame_ends :
    (∀ op : Byte, op ∉ illegalOpcodes → 0 < Config.defaultParams.cycles op) ∧ 0 < Config.defaultParams.haltIdleCycles
      ∧ (∃ t, runFrame { Config.defaultParams with frameBudget := 5 } { State.reset with ie := true } = .done t
        ∧ t.driver = ⟨8, .two⟩ ∧ t.pc = 0x0008 ∧ t.top = 0x0002 ∧ t.ie = false)
      ∧ (∃ t, runFrame { Config.defaultParams with frameBudget := 5 } State.reset = .done t ∧ t.driver = ⟨8, .one⟩ ∧ t.pc = 0x0002)
      ∧ (∃ t, runFrame { Config.defaultParams with frameBudget := 8 } (code [0x00, 0x08])
        = .faulted t (.unimplementedInstruction 0x08 0x0101) ∧ t.fault = some ⟨0x08, 0x0101⟩ ∧ t.driver = ⟨4, .one⟩) :=
  ⟨by decide, by decide, ⟨_, rfl, rfl, rfl, rfl, rfl⟩, ⟨_, rfl, rfl, rfl⟩, ⟨_, rfl, rfl, rfl⟩⟩

/-- LoaderStoresTheImage, at an image that ends with the memory. -/
theorem witness_loader : 0xFFFE + ([1, 2] : List Byte).length ≤ 65536
    ∧ ∃ t, State.reset.loadImage 0xFFFE [1, 2] = .next t ∧ t.read 0xFFFF = 2 ∧ t.read 0x0000 = 0 :=
  ⟨Nat.le_refl _, _, rfl, rfl, rfl⟩

end Sys2Proof.Tests
end

section
/-! SUPPORT. What reset and launch leave (70_reset_and_hazards.md R900), and the obligation that states it. -/

namespace Sys2Proof.Machine

/-- The only bit of the packed flags that clear flags leave set is the fixed bit 1 (R30). -/
theorem Flags.toByte_clear : Flags.toByte ⟨false, false, false, false, false⟩ = 0x02 := by decide

theorem State.reset_eq_launch : State.reset = State.launch .one [] := rfl

@[simp] theorem State.reset_get (r : Reg) : State.reset.regs.get r = 0 := by cases r <;> rfl

/-- Reset memory lists nothing, and an unlisted address reads 0x00 (log 1). -/
@[simp] theorem State.reset_read (a : Word) : State.reset.read a = 0 := Memory.read_nil a.toNat

/-- A launch chooses the memory and FIRST_VECTOR and nothing else (R6, D17). -/
theorem State.launch_eq_reset_with (first : FrameVector) (m : Memory) :
    State.launch first m = { State.reset with mem := m, driver := ⟨0, first⟩ } := rfl

/-- Settles O10: reset is the launch with FIRST_VECTOR 1 and a memory that lists nothing, so its other fields are a launch's. -/
theorem resetLeavesZero : Obligations.ResetLeavesZero := by
  unfold Obligations.ResetLeavesZero
  refine ⟨State.reset_get, ?sp, ?pc, ?flags, ?ie, ?halted, ?fault, ?ports, ?driver, State.reset_read, State.launch_eq_reset_with⟩
  case flags => rw [State.reset_eq_launch, State.launch_flags, Flags.toByte_clear]
  all_goals simp only [State.reset_eq_launch, State.launch_sp, State.launch_pc, State.launch_ie, State.launch_halted,
    State.launch_fault, State.launch_ports, State.launch_driver]

end Sys2Proof.Machine
end

section
/-! SUPPORT. Parity, ZSP and the flag byte (10_state.md R28 to R30), and the obligations that state them. -/

namespace Sys2Proof.Machine

/-! ### Parity and ZSP -/

/-- The eight bits added up are the bits counted. -/
theorem popCount_eq_countP (v : Byte) : popCount v = (List.range 8).countP (fun k => v.getLsbD k) := by
  have hrange : List.range 8 = [0, 1, 2, 3, 4, 5, 6, 7] := rfl
  simp only [popCount, hrange, List.countP_cons, List.countP_nil, Bool.toNat, Bool.cond_eq_ite]
  omega

theorem parity_iff (v : Byte) : parity v = true ↔ EvenOnes v := by
  simp [parity, EvenOnes, popCount_eq_countP]

/-- The sign bit is set from 128 on. -/
theorem getLsbD_seven_iff (v : Byte) : v.getLsbD 7 = true ↔ v.toNat ≥ 128 := by
  have hmsb : v.getLsbD 7 = v.msb := (BitVec.msb_eq_getLsbD_last v).symm
  rw [hmsb, BitVec.msb_eq_decide, decide_eq_true_iff]

theorem Flags.zsp_show (f : Flags) (v : Byte) : (f.zsp v).Show v := by
  refine ⟨?zero, getLsbD_seven_iff v, parity_iff v⟩
  case zero => simp [Flags.zsp, BitVec.toNat_eq]

/-- Settles O21: `parity` counts the ones, and ZSP writes Z, S and P only. -/
theorem parityAndZsp : Obligations.ParityAndZsp := by
  unfold Obligations.ParityAndZsp
  exact ⟨parity_iff, by decide, fun f v => ⟨Flags.zsp_show f v, rfl, rfl⟩⟩

/-! ### The flag byte -/

/-- Each bit of the flag byte: S, Z, 0, AC, 0, P, 1, CY from bit 7 down, checked at the 32 values of the flags. -/
theorem Flags.getLsbD_toByte (f : Flags) :
    f.toByte.getLsbD 7 = f.s ∧ f.toByte.getLsbD 6 = f.z ∧ f.toByte.getLsbD 5 = false ∧ f.toByte.getLsbD 4 = f.ac
      ∧ f.toByte.getLsbD 3 = false ∧ f.toByte.getLsbD 2 = f.p ∧ f.toByte.getLsbD 1 = true ∧ f.toByte.getLsbD 0 = f.cy := by
  obtain ⟨z, s, p, cy, ac⟩ := f
  revert z s p cy ac
  decide

/-- Flags that are all true leave clear only the fixed bits 5 and 3 (R30). -/
theorem Flags.toByte_set : Flags.toByte ⟨true, true, true, true, true⟩ = 0xD7 := by decide

/-- Settles O22, bit by bit; its two values are those of clear flags and of set ones. -/
theorem flagByteLayout : Obligations.FlagByteLayout := by
  unfold Obligations.FlagByteLayout
  exact ⟨Flags.getLsbD_toByte, Flags.toByte_clear, Flags.toByte_set⟩

end Sys2Proof.Machine
end

section
/-! SUPPORT. The flags through an instruction whose rule lists none (10_state.md R27). -/

namespace Sys2Proof.Machine

/-- An outcome whose next state, if it has one, has the flags of `s`. -/
def State.KeepsFlags (s : State) (r : Result) : Prop := ∀ t, r = .next t → t.flags = s.flags

theorem State.keepsFlags_next {s u : State} (h : u.flags = s.flags) : s.KeepsFlags (.next u) := by
  rintro t ⟨⟩
  exact h

theorem jumpIfOp_keepsFlags (cond : Cond) (a : Word) (s : State) : s.KeepsFlags (jumpIfOp cond a s) := by
  rcases jumpIfOp_cases cond a s with ⟨-, h⟩ | ⟨-, h⟩ <;> rw [h] <;> exact State.keepsFlags_next rfl

theorem callIfOp_keepsFlags (cond : Cond) (a : Word) (s : State) : s.KeepsFlags (callIfOp cond a s) := by
  rcases callIfOp_cases cond a s with ⟨-, h⟩ | ⟨-, h⟩ <;> rw [h] <;> exact State.keepsFlags_next rfl

theorem returnIfOp_keepsFlags (cond : Cond) (s : State) : s.KeepsFlags (returnIfOp cond s) := by
  rcases returnIfOp_cases cond s with ⟨-, h⟩ | ⟨-, h⟩ <;> rw [h] <;> exact State.keepsFlags_next rfl

theorem writesFlags_alu (op : AluOp) (o : Operand) : WritesFlags (.alu op o) := .inl ⟨op, o, rfl⟩
theorem writesFlags_aluImm (d : Byte) (op : AluOp) : WritesFlags (.aluImm d op) := .inr (.inl ⟨d, op, rfl⟩)
theorem writesFlags_inr (o : Operand) : WritesFlags (.inr o) := .inr (.inr (.inl ⟨o, rfl⟩))
theorem writesFlags_dcr (o : Operand) : WritesFlags (.dcr o) := .inr (.inr (.inr (.inl ⟨o, rfl⟩)))
theorem writesFlags_dad (p : Pair) : WritesFlags (.dad p) := .inr (.inr (.inr (.inr (.inl ⟨p, rfl⟩))))

theorem writesFlags_of_mem {i : Instr} (h : i ∈ [Instr.daa, .cmc, .stc, .rlc, .rrc, .ral, .rar, .popPSW]) : WritesFlags i :=
  .inr (.inr (.inr (.inr (.inr h))))

/-- Every instruction has a flag in its rule or keeps the flags. Of the POP forms PSW alone loads them (92_eei_decisions.md D22). -/
theorem exec_keepsFlags_or_writesFlags (i : Instr) (s : State) : s.KeepsFlags (exec i s) ∨ WritesFlags i := by
  cases i.shape with
  | alu op o => exact .inr (writesFlags_alu op o)
  | aluImm d op => exact .inr (writesFlags_aluImm d op)
  | inr o => exact .inr (writesFlags_inr o)
  | dcr o => exact .inr (writesFlags_dcr o)
  | dad p => exact .inr (writesFlags_dad p)
  | daa | cmc | stc | rlc | rrc | ral | rar => exact .inr (writesFlags_of_mem (by simp))
  | pop p =>
    cases p with
    | psw => exact .inr (writesFlags_of_mem (by simp [Instr.pop]))
    | bc | de | hl => exact .inl (State.keepsFlags_next rfl)
  | movRR dst src => rw [exec_movRR]; exact .inl (State.keepsFlags_next rfl)
  | movRM dst => rw [exec_movRM]; exact .inl (State.keepsFlags_next rfl)
  | movMR src => rw [exec_movMR]; exact .inl (State.keepsFlags_next rfl)
  | mvi d o => rw [exec_mvi]; exact .inl (State.keepsFlags_next (s.setOperand_flags o d))
  | lxi d p => rw [exec_lxi]; exact .inl (State.keepsFlags_next (s.setPair_flags p d))
  | inx p => rw [exec_inx]; exact .inl (State.keepsFlags_next (s.setPair_flags p _))
  | dcx p => rw [exec_dcx]; exact .inl (State.keepsFlags_next (s.setPair_flags p _))
  | ldax p => rw [exec_ldax]; exact .inl (State.keepsFlags_next rfl)
  | stax p => rw [exec_stax]; exact .inl (State.keepsFlags_next rfl)
  | push p => cases p <;> exact .inl (State.keepsFlags_next rfl)
  | jcc a cond => rw [exec_jcc]; exact .inl (jumpIfOp_keepsFlags cond a s)
  | ccc a cond => rw [exec_ccc]; exact .inl (callIfOp_keepsFlags cond a s)
  | rcc cond => rw [exec_rcc]; exact .inl (returnIfOp_keepsFlags cond s)
  | rst n => rw [exec_rst]; exact .inl (State.keepsFlags_next rfl)
  | illegal op => exact .inl (fun t h => nomatch h)
  | _ => exact .inl (State.keepsFlags_next rfl)

/-- Settles O15: an instruction that keeps no flags is one whose rule lists some. -/
theorem flagWriters : Obligations.FlagWriters := by
  unfold Obligations.FlagWriters
  intro i s t h hw
  exact (exec_keepsFlags_or_writesFlags i s).resolve_right hw t h

end Sys2Proof.Machine
end

section
/-! SUPPORT. The system fields (IE, HALTED, FAULT, the port devices, the driver's fields) through an instruction. All but IN, OUT,
EI, DI and HLT run the same whatever those fields hold and leave them as they are: one split over the shapes says so, and the
obligations on who writes or reads the fields follow from it. -/

namespace Sys2Proof.Machine

/-! ### The system fields as one value -/

/-- The fields that `State.SameSystem` speaks of. -/
structure SystemFields where
  ie : Bool
  halted : Bool
  fault : Option FaultRecord
  ports : PortState
  driver : DriverState

/-- The system fields of a state. -/
def State.system (s : State) : SystemFields := ⟨s.ie, s.halted, s.fault, s.ports, s.driver⟩

/-- A state with other system fields. -/
def State.withSystem (s : State) (y : SystemFields) : State :=
  { s with ie := y.ie, halted := y.halted, fault := y.fault, ports := y.ports, driver := y.driver }

theorem State.withSystem_system (s : State) : s.withSystem s.system = s := rfl

theorem State.sameSystem_withSystem (s t : State) : s.SameSystem (t.withSystem s.system) := ⟨rfl, rfl, rfl, rfl, rfl⟩

theorem State.withSystem_of_sameSystem {s t : State} (h : s.SameSystem t) : t.withSystem s.system = t := by
  obtain ⟨hie, hhalted, hfault, hports, hdriver⟩ := h
  simp only [State.withSystem, State.system, ← hie, ← hhalted, ← hfault, ← hports, ← hdriver]

/-! ### What does not see the system fields -/

@[simp] theorem State.withSystem_flags (s : State) (y : SystemFields) : (s.withSystem y).flags = s.flags := rfl

@[simp] theorem State.pair_withSystem (s : State) (y : SystemFields) (p : Pair) : (s.withSystem y).pair p = s.pair p :=
  State.pair_congr rfl rfl p

@[simp] theorem State.operand_withSystem (s : State) (y : SystemFields) (o : Operand) :
    (s.withSystem y).operand o = s.operand o := State.operand_congr rfl rfl o

@[simp] theorem State.setPair_withSystem (s : State) (y : SystemFields) (p : Pair) (v : Word) :
    (s.withSystem y).setPair p v = (s.setPair p v).withSystem y := by cases p <;> rfl

@[simp] theorem State.setOperand_withSystem (s : State) (y : SystemFields) (o : Operand) (v : Byte) :
    (s.withSystem y).setOperand o v = (s.setOperand o v).withSystem y := by cases o <;> rfl

/-- The meaning neither reads nor writes the system fields. -/
def IgnoresSystem (f : State → Result) : Prop :=
  ∀ (s : State) (y : SystemFields), f (s.withSystem y) = mapNext (fun t => t.withSystem y) (f s)

theorem IgnoresSystem.of_eq {f g : State → Result} (hg : IgnoresSystem g) (h : ∀ s, f s = g s) : IgnoresSystem f := by
  rwa [show f = g from funext h]

/-- What is not seen is kept: run it on the state's own system fields. -/
theorem IgnoresSystem.sameSystem {f : State → Result} (hf : IgnoresSystem f) {s t : State} (h : f s = .next t) :
    s.SameSystem t := by
  have hself := hf s s.system
  rw [State.withSystem_system, h] at hself
  have ht : t = t.withSystem s.system := by simpa [mapNext] using hself
  rw [ht]
  exact s.sameSystem_withSystem t

/-- A write of some system fields is not seen: it commutes with the meaning. -/
theorem IgnoresSystem.commutes {f : State → Result} (hf : IgnoresSystem f) (g : SystemFields → SystemFields) (s : State) :
    f (s.withSystem (g s.system)) = mapNext (fun t => t.withSystem (g t.system)) (f s) := by
  rw [hf s (g s.system)]
  cases h : f s with
  | next t =>
    have hsame : t.system = s.system := by
      rw [← State.withSystem_of_sameSystem (hf.sameSystem h)]; rfl
    simp only [mapNext, hsame]
  | fault r => rfl
  | refused r => rfl

/-! ### The shared operations -/

theorem moveOp_ignoresSystem (dst src : Operand) : IgnoresSystem (moveOp dst src) := fun s y => by
  simp only [moveOp, State.operand_withSystem, State.setOperand_withSystem]; rfl

theorem moveImmOp_ignoresSystem (dst : Operand) (v : Byte) : IgnoresSystem (moveImmOp dst v) := fun s y => by
  simp only [moveImmOp, State.setOperand_withSystem]; rfl

theorem incrementOp_ignoresSystem (o : Operand) : IgnoresSystem (incrementOp o) := fun s y => by
  simp only [incrementOp, State.operand_withSystem, State.setOperand_withSystem]; rfl

theorem decrementOp_ignoresSystem (o : Operand) : IgnoresSystem (decrementOp o) := fun s y => by
  simp only [decrementOp, State.operand_withSystem, State.setOperand_withSystem]; rfl

theorem loadPairImmOp_ignoresSystem (p : Pair) (v : Word) : IgnoresSystem (loadPairImmOp p v) := fun s y => by
  simp only [loadPairImmOp, State.setPair_withSystem]; rfl

theorem incrementPairOp_ignoresSystem (p : Pair) : IgnoresSystem (incrementPairOp p) := fun s y => by
  simp only [incrementPairOp, State.pair_withSystem, State.setPair_withSystem]; rfl

theorem decrementPairOp_ignoresSystem (p : Pair) : IgnoresSystem (decrementPairOp p) := fun s y => by
  simp only [decrementPairOp, State.pair_withSystem, State.setPair_withSystem]; rfl

theorem addPairOp_ignoresSystem (p : Pair) : IgnoresSystem (addPairOp p) := fun s y => by
  simp only [addPairOp, State.pair_withSystem, State.setPair_withSystem]; rfl

theorem jumpIfOp_ignoresSystem (cond : Cond) (a : Word) : IgnoresSystem (jumpIfOp cond a) := fun s y => by
  cases h : s.flags.holds cond <;> simp only [jumpIfOp, State.withSystem_flags, h] <;> rfl

theorem callIfOp_ignoresSystem (cond : Cond) (a : Word) : IgnoresSystem (callIfOp cond a) := fun s y => by
  cases h : s.flags.holds cond <;> simp only [callIfOp, State.withSystem_flags, h] <;> rfl

theorem returnIfOp_ignoresSystem (cond : Cond) : IgnoresSystem (returnIfOp cond) := fun s y => by
  cases h : s.flags.holds cond <;> simp only [returnIfOp, State.withSystem_flags, h] <;> rfl

/-! ### The instructions -/

theorem exec_inp (p : Byte) (s : State) : exec (.inp p) s = inputOp p s := rfl
theorem exec_out (p : Byte) (s : State) : exec (.out p) s = outputOp p s := rfl

/-- Every instruction but IN, OUT, EI, DI and HLT neither reads nor writes the system fields. -/
theorem exec_ignoresSystem_or (i : Instr) :
    IgnoresSystem (exec i) ∨ (∃ p, i = .inp p) ∨ (∃ p, i = .out p) ∨ i = .ei ∨ i = .di ∨ i = .hlt := by
  cases i.shape with
  | inp p => exact .inr (.inl ⟨p, rfl⟩)
  | out p => exact .inr (.inr (.inl ⟨p, rfl⟩))
  | ei => exact .inr (.inr (.inr (.inl rfl)))
  | di => exact .inr (.inr (.inr (.inr (.inl rfl))))
  | hlt => exact .inr (.inr (.inr (.inr (.inr rfl))))
  | movRR dst src => exact .inl ((moveOp_ignoresSystem _ _).of_eq (exec_movRR dst src))
  | movRM dst => exact .inl ((moveOp_ignoresSystem _ _).of_eq (exec_movRM dst))
  | movMR src => exact .inl ((moveOp_ignoresSystem _ _).of_eq (exec_movMR src))
  | mvi d o => exact .inl ((moveImmOp_ignoresSystem o d).of_eq (exec_mvi d o))
  | inr o => exact .inl ((incrementOp_ignoresSystem o).of_eq (exec_inr o))
  | dcr o => exact .inl ((decrementOp_ignoresSystem o).of_eq (exec_dcr o))
  | lxi d p => exact .inl ((loadPairImmOp_ignoresSystem p d).of_eq (exec_lxi d p))
  | inx p => exact .inl ((incrementPairOp_ignoresSystem p).of_eq (exec_inx p))
  | dcx p => exact .inl ((decrementPairOp_ignoresSystem p).of_eq (exec_dcx p))
  | dad p => exact .inl ((addPairOp_ignoresSystem p).of_eq (exec_dad p))
  | ldax p => exact .inl fun s y => by cases p <;> rfl
  | stax p => exact .inl fun s y => by cases p <;> rfl
  | push p => exact .inl fun s y => by cases p <;> rfl
  | pop p => exact .inl fun s y => by cases p <;> rfl
  | alu op o => exact .inl fun s y => by simp only [exec_alu, State.operand_withSystem]; rfl
  | aluImm d op => exact .inl fun s y => by simp only [exec_aluImm]; rfl
  | jcc a cond => exact .inl ((jumpIfOp_ignoresSystem cond a).of_eq (exec_jcc a cond))
  | ccc a cond => exact .inl ((callIfOp_ignoresSystem cond a).of_eq (exec_ccc a cond))
  | rcc cond => exact .inl ((returnIfOp_ignoresSystem cond).of_eq (exec_rcc cond))
  | rst n => exact .inl fun s y => by simp only [exec_rst]; rfl
  | _ => exact .inl fun s y => rfl

/-! ### The port devices (60_exceptions.md R811 to R815) -/

/-- What a port write can do (R812): set the shift offset, shift, or nothing. -/
theorem PortState.write_cases (d : PortState) (p v : Byte) :
    (p = 2 ∧ d.write p v = { d with shiftOffset := v.extractLsb' 0 3 })
      ∨ (p = 4 ∧ d.write p v = { d with shift0 := d.shift1, shift1 := v }) ∨ d.write p v = d := by
  unfold PortState.write
  split_ifs with h2 h4
  · exact .inl ⟨h2, rfl⟩
  · exact .inr (.inl ⟨h4, rfl⟩)
  · exact .inr (.inr rfl)

/-- No port write reaches the input latch, which may hold any value. -/
theorem PortState.write_inPort1 (d : PortState) (p v w : Byte) :
    PortState.write { d with inPort1 := w } p v = { d.write p v with inPort1 := w } := by
  unfold PortState.write
  split_ifs <;> rfl

/-- Port 1 alone reads the input latch (R811). -/
theorem PortState.read_inPort1_of_ne (d : PortState) {p : Byte} (w : Byte) (hp : p ≠ 1) :
    PortState.read { d with inPort1 := w } p = d.read p := by
  simp only [PortState.read, if_neg hp]
  rfl

/-! ### The obligations -/

/-- Settles O14: an instruction that ignores the system fields keeps them, IN keeps them too, and the other four write what their
rules say. -/
theorem systemStateWriters : Obligations.SystemStateWriters := by
  unfold Obligations.SystemStateWriters
  intro i s t h
  rcases exec_ignoresSystem_or i with hi | ⟨p, rfl⟩ | ⟨p, rfl⟩ | rfl | rfl | rfl
  · obtain ⟨hie, hhalted, hfault, hports, hdriver⟩ := hi.sameSystem h
    simp [hie, hhalted, hfault, hports, hdriver]
  · cases h
    simp
  · have ht : t = { s with ports := s.ports.write p s.regs.a }.advance 2 := by cases h; rfl
    rcases s.ports.write_cases p s.regs.a with ⟨rfl, hw⟩ | ⟨rfl, hw⟩ | hw <;> rw [hw] at ht <;> simp [ht]
  all_goals
    cases h
    simp

/-- IN, OUT, EI, DI and HLT see system fields, but not the driver's (R41). -/
theorem exec_withDriver (i : Instr) (s : State) (d : DriverState) :
    exec i (s.withDriver d) = mapNext (fun t => t.withDriver d) (exec i s) := by
  rcases exec_ignoresSystem_or i with hi | ⟨p, rfl⟩ | ⟨p, rfl⟩ | rfl | rfl | rfl
  · exact hi.commutes (fun y => { y with driver := d }) s
  all_goals rfl

/-- Settles O18: FAULT, HALTED and the bytes at PC choose the step, and the instruction it runs ignores the driver's fields. -/
theorem stepIgnoresDriverFields : Obligations.StepIgnoresDriverFields := by
  unfold Obligations.StepIgnoresDriverFields
  intro s d
  have hfetch : (s.withDriver d).fetch = s.fetch := rfl
  rcases step_cases s with ⟨r, hf, -⟩ | ⟨hf, hh, -⟩ | ⟨hf, hh, hs⟩
  · simp [step, hf, mapNext]
  · simp [step, hf, hh, mapNext, State.idle]
  · rw [hs, ← exec_withDriver, ← hfetch]
    simp [step, hf, hh]

/-- Settles O19: the latch is a system field, so IN and OUT alone can see it; IN at another port reads none of it, and OUT carries it
along. -/
theorem inputLatchReachesOnlyIn1 : Obligations.InputLatchReachesOnlyIn1 := by
  unfold Obligations.InputLatchReachesOnlyIn1
  intro i s v hi1
  rcases exec_ignoresSystem_or i with hi | ⟨p, rfl⟩ | ⟨p, rfl⟩ | rfl | rfl | rfl
  · exact hi.commutes (fun y => { y with ports := { y.ports with inPort1 := v } }) s
  · have hp : p ≠ 1 := fun h => hi1 (h ▸ rfl)
    have hread : (s.withInPort1 v).ports.read p = s.ports.read p := s.ports.read_inPort1_of_ne v hp
    simp only [exec_inp, inputOp, hread]
    rfl
  · simp only [exec_out, outputOp, State.withInPort1, PortState.write_inPort1]
    rfl
  all_goals rfl

end Sys2Proof.Machine
end

section
/-! SUPPORT. The two operations of the stack (20_memory.md R57), and the obligation that states them. -/

namespace Sys2Proof.Machine

theorem State.sameMemBut_push (s : State) (v : Word) : s.SameMemBut (s.push v) [s.sp - 1, s.sp - 2] := by
  intro x hx
  obtain ⟨hhigh, hlow⟩ : x ≠ s.sp - 1 ∧ x ≠ s.sp - 2 := by simpa using hx
  exact State.read_push_other s v hhigh hlow

theorem State.top_eq_cat16 (s : State) : s.top = cat16 (s.read (s.sp + 1)) (s.read s.sp) := rfl

/-- Settles O20: the two clauses with SP at an end of memory are the general ones at that SP. -/
theorem stackGrowsDown : Obligations.StackGrowsDown := by
  unfold Obligations.StackGrowsDown
  intro s v
  refine ⟨s.push_sp v, s.read_push_high v, s.read_push_low v, s.sameMemBut_push v, s.top_eq_cat16, rfl, ?pushAtZero, ?popAtTop⟩
  case pushAtZero =>
    intro hsp
    have hhigh : s.sp - 1 = 0xFFFF := by rw [hsp]; rfl
    have hlow : s.sp - 2 = 0xFFFE := by rw [hsp]; rfl
    exact ⟨hhigh ▸ s.read_push_high v, hlow ▸ s.read_push_low v, hlow ▸ s.push_sp v⟩
  case popAtTop =>
    intro hsp
    have hnext : (0xFFFF : Word) + 1 = 0x0000 := rfl
    rw [State.top_eq_cat16, State.dropTop_sp, hsp, hnext]
    exact ⟨rfl, rfl⟩

end Sys2Proof.Machine
end

section
/-! SUPPORT. What an instruction stores. One split over the shapes says that every defined instruction completes, and that the memory
it leaves is the memory before with one store at each address of its rule (20_memory.md R51, R55, R62). The obligations on faults and
stores, and the one on the invariant of a step, follow from it. -/

namespace Sys2Proof.Machine

/-! ### Stores at a list of addresses -/

/-- The second memory is the first after one store at each of the listed addresses, in their order. -/
inductive Memory.StoresAt : Memory → List Word → Memory → Prop where
  | nil {m : Memory} : Memory.StoresAt m [] m
  | cons {m n : Memory} {a : Word} {as : List Word} (v : Byte) (h : Memory.StoresAt (m.write a.toNat v) as n) :
      Memory.StoresAt m (a :: as) n

theorem Memory.StoresAt.wf {m n : Memory} {as : List Word} (h : m.StoresAt as n) (hm : m.wf = true) : n.wf = true := by
  induction h with
  | nil => exact hm
  | @cons m n a as v _ ih => exact ih (Memory.wf_write v a.isLt hm)

theorem Memory.StoresAt.read_other {m n : Memory} {as : List Word} (h : m.StoresAt as n) {x : Word} (hx : x ∉ as) :
    n.read x.toNat = m.read x.toNat := by
  induction h with
  | nil => rfl
  | @cons m n a as v _ ih =>
    obtain ⟨hxa, hxas⟩ : x ≠ a ∧ x ∉ as := by simpa using hx
    rw [ih hxas, Memory.read_write_other m v (mt BitVec.eq_of_toNat_eq hxa)]

/-! ### The storing updates of the state -/

theorem State.storesAt_write (s : State) (a : Word) (v : Byte) : s.mem.StoresAt [a] (s.write a v).mem := .cons v .nil

theorem State.storesAt_writeWord (s : State) (a v : Word) : s.mem.StoresAt [a, a + 1] (s.writeWord a v).mem :=
  .cons (lo8 v) (.cons (hi8 v) .nil)

theorem State.storesAt_push (s : State) (v : Word) : s.mem.StoresAt [s.sp - 1, s.sp - 2] (s.push v).mem :=
  .cons (hi8 v) (.cons (lo8 v) .nil)

/-- Where a write of an operand stores (10_state.md R22): nowhere for a register, at H:L for M. -/
def operandAddresses (s : State) : Operand → List Word
  | .reg _ => []
  | .m => [s.pair .hl]

theorem State.storesAt_setOperand (s : State) (o : Operand) (v : Byte) :
    s.mem.StoresAt (operandAddresses s o) (s.setOperand o v).mem := by
  cases o with
  | reg r => exact .nil
  | m => exact s.storesAt_write (s.pair .hl) v

/-! ### The addresses of each family that has operands -/

theorem storeAddresses_movRR (dst src : Reg) (s : State) : storeAddresses (.movRR dst src) s = [] := by
  cases dst <;> cases src <;> rfl

theorem storeAddresses_movRM (dst : Reg) (s : State) : storeAddresses (.movRM dst) s = [] := by cases dst <;> rfl

theorem storeAddresses_movMR (src : Reg) (s : State) : storeAddresses (.movMR src) s = [s.pair .hl] := by cases src <;> rfl

theorem storeAddresses_mvi (d : Byte) (o : Operand) (s : State) : storeAddresses (.mvi d o) s = operandAddresses s o := by
  rcases o with r | _
  · cases r <;> rfl
  · rfl

theorem storeAddresses_inr (o : Operand) (s : State) : storeAddresses (.inr o) s = operandAddresses s o := by
  rcases o with r | _
  · cases r <;> rfl
  · rfl

theorem storeAddresses_dcr (o : Operand) (s : State) : storeAddresses (.dcr o) s = operandAddresses s o := by
  rcases o with r | _
  · cases r <;> rfl
  · rfl

theorem storeAddresses_alu (op : AluOp) (o : Operand) (s : State) : storeAddresses (.alu op o) s = [] := by
  rcases o with r | _
  · cases op <;> cases r <;> rfl
  · cases op <;> rfl

theorem storeAddresses_aluImm (d : Byte) (op : AluOp) (s : State) : storeAddresses (.aluImm d op) s = [] := by cases op <;> rfl

theorem storeAddresses_jcc (a : Word) (cond : Cond) (s : State) : storeAddresses (.jcc a cond) s = [] := by cases cond <;> rfl

theorem storeAddresses_rcc (cond : Cond) (s : State) : storeAddresses (.rcc cond) s = [] := by cases cond <;> rfl

theorem ite_not_bool {α : Type} (b : Bool) (x y : α) : (if (!b) = true then x else y) = if b = true then y else x := by
  cases b <;> rfl

/-- A conditional call stores if its condition holds (45_control_flow.md R604). -/
theorem storeAddresses_ccc (a : Word) (cond : Cond) (s : State) :
    storeAddresses (.ccc a cond) s = if s.flags.holds cond then [s.sp - 1, s.sp - 2] else [] := by
  cases cond with
  | z | c | pe | m => rfl
  | nz | nc | po | p => exact (ite_not_bool _ _ _).symm

theorem storeAddresses_rst (n : BitVec 3) (s : State) : storeAddresses (.rst n) s = [s.sp - 1, s.sp - 2] := by
  unfold Instr.rst
  split <;> rfl

/-! ### Completing with stores -/

/-- The outcome is a next state, and its memory is that of `s` after one store at each of the listed addresses. -/
def State.CompletesStoring (s : State) (as : List Word) (r : Result) : Prop := ∃ t, r = .next t ∧ s.mem.StoresAt as t.mem

theorem State.completesStoring_next {s t : State} {as : List Word} (h : s.mem.StoresAt as t.mem) :
    s.CompletesStoring as (.next t) := ⟨t, rfl, h⟩

/-- An outcome that keeps the memory stores at no address. -/
theorem State.completesStoring_nil {s t : State} (h : t.mem = s.mem) : s.CompletesStoring [] (.next t) :=
  State.completesStoring_next (h ▸ .nil)

theorem jumpIfOp_completesStoring (cond : Cond) (a : Word) (s : State) : s.CompletesStoring [] (jumpIfOp cond a s) := by
  rcases jumpIfOp_cases cond a s with ⟨-, h⟩ | ⟨-, h⟩ <;> rw [h] <;> exact State.completesStoring_nil rfl

theorem returnIfOp_completesStoring (cond : Cond) (s : State) : s.CompletesStoring [] (returnIfOp cond s) := by
  rcases returnIfOp_cases cond s with ⟨-, h⟩ | ⟨-, h⟩ <;> rw [h] <;> exact State.completesStoring_nil rfl

theorem callOp_completesStoring (target len : Word) (s : State) :
    s.CompletesStoring [s.sp - 1, s.sp - 2] (callOp target len s) := State.completesStoring_next (s.storesAt_push (s.pc + len))

theorem callIfOp_completesStoring (cond : Cond) (a : Word) (s : State) :
    s.CompletesStoring (if s.flags.holds cond then [s.sp - 1, s.sp - 2] else []) (callIfOp cond a s) := by
  rcases callIfOp_cases cond a s with ⟨hc, h⟩ | ⟨hc, h⟩ <;> rw [h, hc]
  · exact callOp_completesStoring a 3 s
  · exact State.completesStoring_nil rfl

/-- Every defined instruction completes, with one store at each address of its rule. -/
theorem exec_completesStoring {i : Instr} (hi : ∀ op, i ≠ .illegal op) (s : State) :
    s.CompletesStoring (storeAddresses i s) (exec i s) := by
  cases i.shape with
  | illegal op => exact absurd rfl (hi op)
  | movRR dst src => rw [exec_movRR, storeAddresses_movRR]; exact State.completesStoring_nil rfl
  | movRM dst => rw [exec_movRM, storeAddresses_movRM]; exact State.completesStoring_nil rfl
  | movMR src => rw [exec_movMR, storeAddresses_movMR]; exact State.completesStoring_next (s.storesAt_write _ _)
  | mvi d o => rw [exec_mvi, storeAddresses_mvi]; exact State.completesStoring_next (s.storesAt_setOperand o _)
  | inr o => rw [exec_inr, storeAddresses_inr]; exact State.completesStoring_next (s.storesAt_setOperand o _)
  | dcr o => rw [exec_dcr, storeAddresses_dcr]; exact State.completesStoring_next (s.storesAt_setOperand o _)
  | alu op o => rw [exec_alu, storeAddresses_alu]; exact State.completesStoring_nil rfl
  | aluImm d op => rw [exec_aluImm, storeAddresses_aluImm]; exact State.completesStoring_nil rfl
  | lxi d p => cases p <;> exact State.completesStoring_nil rfl
  | inx p => cases p <;> exact State.completesStoring_nil rfl
  | dcx p => cases p <;> exact State.completesStoring_nil rfl
  | dad p => cases p <;> exact State.completesStoring_nil rfl
  | ldax p => cases p <;> exact State.completesStoring_nil rfl
  | pop p => cases p <;> exact State.completesStoring_nil rfl
  | stax p => cases p <;> exact State.completesStoring_next (s.storesAt_write _ _)
  | push p => cases p <;> exact State.completesStoring_next (s.storesAt_push _)
  | sta a => exact State.completesStoring_next (s.storesAt_write a _)
  | shld a => exact State.completesStoring_next (s.storesAt_writeWord a _)
  | xthl => exact State.completesStoring_next (s.storesAt_writeWord s.sp _)
  | jcc a cond => rw [exec_jcc, storeAddresses_jcc]; exact jumpIfOp_completesStoring cond a s
  | rcc cond => rw [exec_rcc, storeAddresses_rcc]; exact returnIfOp_completesStoring cond s
  | ccc a cond => rw [exec_ccc, storeAddresses_ccc]; exact callIfOp_completesStoring cond a s
  | call a => exact callOp_completesStoring a 3 s
  | rst n => rw [exec_rst, storeAddresses_rst]; exact callOp_completesStoring _ 1 s
  | _ => exact State.completesStoring_nil rfl

/-- R801: ILLEGAL faults with its opcode and PC. -/
theorem exec_illegal (op : Byte) (s : State) : exec (.illegal op) s = .fault (.unimplementedInstruction op s.pc) := rfl

/-- An instruction that leaves a next state is a defined one, so its stores are those of its rule. -/
theorem exec_next_storesAt {i : Instr} {s t : State} (h : exec i s = .next t) : s.mem.StoresAt (storeAddresses i s) t.mem := by
  have hi : ∀ op, i ≠ .illegal op := by
    rintro op rfl
    rw [exec_illegal] at h
    cases h
  obtain ⟨u, hu, hstores⟩ := exec_completesStoring hi s
  cases h.symm.trans hu
  exact hstores

/-- Settles O7: the defined instructions complete, ILLEGAL faults. -/
theorem onlyTheIllegalOpcodeFaults : Obligations.OnlyTheIllegalOpcodeFaults := by
  unfold Obligations.OnlyTheIllegalOpcodeFaults
  intro i s
  constructor
  · intro hi
    obtain ⟨t, ht, -⟩ := exec_completesStoring hi s
    exact ⟨t, ht⟩
  · rintro op rfl
    exact exec_illegal op s

/-- Settles O16: the stores of an instruction are at the addresses of its rule, and a store leaves every other address alone. -/
theorem storesOnlyWhereTheRuleSays : Obligations.StoresOnlyWhereTheRuleSays := by
  unfold Obligations.StoresOnlyWhereTheRuleSays
  intro i s t h x hx
  exact (exec_next_storesAt h).read_other hx

end Sys2Proof.Machine
end

section
/-! SUPPORT. The invariant (canonical memory, no fault on record) through an instruction, a step, and what the host does. -/

namespace Sys2Proof.Machine

/-! ### The block -/

/-- Stores keep the canonical form, so what also keeps FAULT keeps the invariant. -/
theorem State.Inv.of_storesAt {s t : State} {as : List Word} (hs : s.Inv) (hmem : s.mem.StoresAt as t.mem)
    (hfault : t.fault = s.fault) : t.Inv :=
  ⟨hmem.wf hs.canonical, hfault.trans hs.running⟩

theorem exec_fault {i : Instr} {s t : State} (h : exec i s = .next t) : t.fault = s.fault := by
  obtain ⟨-, -, -, -, -, hfault, -⟩ := systemStateWriters i s t h
  exact hfault

theorem State.Inv.exec {i : Instr} {s t : State} (hs : s.Inv) (h : exec i s = .next t) : t.Inv :=
  hs.of_storesAt (exec_next_storesAt h) (exec_fault h)

theorem State.Inv.step {s t : State} (hs : s.Inv) (h : step s = .next t) : t.Inv := by
  rcases step_cases s with ⟨r, hf, -⟩ | ⟨-, -, hidle⟩ | ⟨-, -, hexec⟩
  · rw [hs.running] at hf
    cases hf
  · cases hidle.symm.trans h
    exact hs
  · exact hs.exec (hexec.symm.trans h)

/-- Settles O12: an idle step changes nothing, and the instruction of any other step stores in canonical form and keeps FAULT. -/
theorem stepKeepsInvariant : Obligations.StepKeepsInvariant := by
  unfold Obligations.StepKeepsInvariant
  exact fun s t hs h => hs.step h

/-! ### Interrupts, the loader, the input layer -/

theorem State.Inv.interruptEntry {s : State} (hs : s.Inv) (n : Nat) : (s.interruptEntry n).Inv :=
  ⟨State.wf_interruptEntry n hs.canonical, hs.running⟩

theorem State.Inv.raise {v : Nat} {s t : State} (hs : s.Inv) (h : raise v s = .next t) : t.Inv := by
  rcases raise_cases v s with ⟨-, hr⟩ | ⟨-, -, -, hr⟩ | ⟨-, -, hr⟩ <;> cases hr.symm.trans h
  · exact hs.interruptEntry v
  · exact hs

@[simp] theorem State.writeBytes_fault (s : State) (a : Word) (vs : List Byte) : (s.writeBytes a vs).fault = s.fault := by
  induction vs generalizing s a with
  | nil => rfl
  | cons v vs ih => exact ih (s.write a v) (a + 1)

/-- An image the loader accepts is one that fits, stored byte for byte (70_reset_and_hazards.md R902, log 8). -/
theorem State.loadImage_next {s t : State} {base : Nat} {image : List Byte} (h : s.loadImage base image = .next t) :
    base + image.length ≤ 65536 ∧ t = s.writeBytes (BitVec.ofNat 16 base) image := by
  unfold State.loadImage at h
  split at h
  · cases h
  · cases h
    exact ⟨by omega, rfl⟩

theorem State.Inv.loadImage {s t : State} {base : Nat} {image : List Byte} (hs : s.Inv)
    (h : s.loadImage base image = .next t) : t.Inv := by
  obtain ⟨-, rfl⟩ := State.loadImage_next h
  exact ⟨State.wf_writeBytes _ image hs.canonical, (State.writeBytes_fault _ _ _).trans hs.running⟩

theorem State.Inv.setInput {s : State} (hs : s.Inv) (line : InputLine) (down : Bool) : (s.setInput line down).Inv :=
  ⟨hs.canonical, hs.running⟩

/-! ### The driver (60_exceptions.md R818) -/

theorem State.Inv.withDriver {s : State} (hs : s.Inv) (d : DriverState) : (s.withDriver d).Inv := ⟨hs.canonical, hs.running⟩

/-- A loop that reaches its budget is there already, or goes on from the state of a step that completes. -/
theorem frameLoop_succ_done {P : Config.Params} {n : Nat} {s t : State} (h : frameLoop P (n + 1) s = .done t) :
    t = s ∨ ∃ (u : State) (d : DriverState), step s = .next u ∧ frameLoop P n (u.withDriver d) = .done t := by
  by_cases hb : s.driver.cycleAcc < P.frameBudget
  · cases hs : step s with
    | next u => exact .inr ⟨u, _, rfl, (frameLoop_of_next n hb hs).symm.trans h⟩
    | fault r => cases (frameLoop_of_fault n hb hs).symm.trans h
    | refused r => simp [frameLoop, hb, timedStep, hs] at h
  · cases (frameLoop_of_budget (n + 1) (Nat.le_of_not_lt hb)).symm.trans h
    exact .inl rfl

theorem frameLoop_zero_done {P : Config.Params} {s t : State} (h : frameLoop P 0 s = .done t) : t = s := by
  unfold frameLoop at h
  split at h <;> cases h
  rfl

theorem State.Inv.frameLoop {P : Config.Params} {n : Nat} {s t : State} (hs : s.Inv) (h : frameLoop P n s = .done t) :
    t.Inv := by
  induction n generalizing s with
  | zero => exact frameLoop_zero_done h ▸ hs
  | succ n ih =>
    rcases frameLoop_succ_done h with rfl | ⟨u, d, hu, hloop⟩
    · exact hs
    · exact ih ((hs.step hu).withDriver d) hloop

theorem State.Inv.frameEnd {s t : State} (hs : s.Inv) (h : frameEnd s = .done t) : t.Inv := by
  rcases frameEnd_cases hs.running with ⟨-, he⟩ | ⟨-, he⟩ <;> cases he.symm.trans h
  · exact (hs.interruptEntry _).withDriver _
  · exact hs

/-- A frame that is done is a loop that reached its budget, and the interrupt step after it. -/
theorem runFrame_done {P : Config.Params} {s t : State} (h : runFrame P s = .done t) :
    ∃ (d : DriverState) (u : State), frameLoop P P.frameBudget (s.withDriver d) = .done u ∧ frameEnd u = .done t := by
  unfold runFrame at h
  split at h
  next u hu => exact ⟨_, u, hu, h⟩
  next hne => exact absurd h (hne t)

theorem State.Inv.runFrame {P : Config.Params} {s t : State} (hs : s.Inv) (h : runFrame P s = .done t) : t.Inv := by
  obtain ⟨d, u, hloop, hend⟩ := runFrame_done h
  exact ((hs.withDriver d).frameLoop hloop).frameEnd hend

/-- Settles O13: each clause is the lemma about that function of the host. -/
theorem hostKeepsInvariant : Obligations.HostKeepsInvariant := by
  unfold Obligations.HostKeepsInvariant
  exact fun s t hs =>
    ⟨fun v => hs.raise, fun base image => hs.loadImage, hs.setInput, fun P => hs.runFrame⟩

end Sys2Proof.Machine
end

section
/-! SUPPORT. The decoder against the encoder (30_encoding.md R100 to R109). From the opcode byte: the instruction read is well formed
and its encoding is the bytes read, checked along the rows of the opcode map. From the instruction: its bytes hold it, shape by shape.
The obligations on the encoding follow from these two. -/

namespace Sys2Proof

/-! ### The opcode byte and its fields (R102) -/

/-- The opcode byte with the given fields: the quadrant, the middle and the low code. -/
def opcodeOf (quadrant : BitVec 2) (mid low : BitVec 3) : Byte := quadrant ++ mid ++ low

theorem opcodeOf_fields (op : Byte) :
    opcodeOf (op.extractLsb' 6 2) (op.extractLsb' 3 3) (op.extractLsb' 0 3) = op := by
  revert op
  decide

@[simp] theorem quadrant_opcodeOf (q : BitVec 2) (mid low : BitVec 3) : (opcodeOf q mid low).extractLsb' 6 2 = q := by
  revert q mid low
  decide

@[simp] theorem mid_opcodeOf (q : BitVec 2) (mid low : BitVec 3) : (opcodeOf q mid low).extractLsb' 3 3 = mid := by
  revert q mid low
  decide

@[simp] theorem low_opcodeOf (q : BitVec 2) (mid low : BitVec 3) : (opcodeOf q mid low).extractLsb' 0 3 = low := by
  revert q mid low
  decide

theorem quadrant_cases (q : BitVec 2) : q = 0 ∨ q = 1 ∨ q = 2 ∨ q = 3 := by
  revert q
  decide

theorem code_cases (c : BitVec 3) : c = 0 ∨ c = 1 ∨ c = 2 ∨ c = 3 ∨ c = 4 ∨ c = 5 ∨ c = 6 ∨ c = 7 := by
  revert c
  decide

/-! ### The length (R100) -/

theorem opcodeLength_pos (op : Byte) : 0 < opcodeLength op := by
  unfold opcodeLength
  split_ifs <;> omega

theorem opcodeLength_le_three (op : Byte) : opcodeLength op ≤ 3 := by
  unfold opcodeLength
  split_ifs <;> omega

/-- The lists of two-byte and three-byte opcodes as masks, at each of the 256 opcode bytes. -/
theorem opcodeLength_eq_masks : ∀ op : Byte, opcodeLength op =
    if op &&& 0xC7 = 0x06 ∨ op &&& 0xC7 = 0xC6 ∨ op = 0xD3 ∨ op = 0xDB then 2
    else if op &&& 0xCF = 0x01 ∨ op &&& 0xE7 = 0x22 ∨ op &&& 0xC7 = 0xC2 ∨ op &&& 0xC7 = 0xC4 ∨ op = 0xC3 ∨ op = 0xCD then 3
    else 1 := by decide

/-! ### From the opcode byte: the rows of the opcode map (R104) -/

theorem wellFormed_illegal_iff (op : Byte) : (Instr.illegal op).wellFormed = true ↔ op ∈ illegalOpcodes := by
  simp [Instr.wellFormed]

/-- What a row of the opcode map says of the instruction read there: it is well formed, and its encoding is the opcode byte with as
many of the two bytes after it as the length says. -/
def Instr.ReadAt (i : Instr) (op b1 b2 : Byte) : Prop :=
  i.wellFormed = true ∧ encode i = [op, b1, b2].take (opcodeLength op)

theorem Instr.readAt_of_one_byte {i : Instr} {op : Byte} (b1 b2 : Byte)
    (h : i.wellFormed = true ∧ encode i = [op] ∧ opcodeLength op = 1) : i.ReadAt op b1 b2 := by
  obtain ⟨hwf, henc, hlen⟩ := h
  exact ⟨hwf, by rw [henc, hlen]; rfl⟩

/-- R105, row by row: the operand, if there is one, is the low byte of the word that follows, or that word. -/
theorem decodeQuadrant0_readAt (mid low : BitVec 3) (w : Word) :
    (decodeQuadrant0 (opcodeOf 0 mid low) (lo8 w) w).ReadAt (opcodeOf 0 mid low) (lo8 w) (hi8 w) := by
  rcases code_cases low with rfl | rfl | rfl | rfl | rfl | rfl | rfl | rfl <;>
    rcases code_cases mid with rfl | rfl | rfl | rfl | rfl | rfl | rfl | rfl <;> exact ⟨rfl, rfl⟩

/-- R106, row by row: no operand bytes. -/
theorem mov_row : ∀ mid low : BitVec 3, (Instr.mov (operandOfCode mid) (operandOfCode low)).wellFormed = true
    ∧ encode (.mov (operandOfCode mid) (operandOfCode low)) = [opcodeOf 1 mid low] ∧ opcodeLength (opcodeOf 1 mid low) = 1 := by
  decide

/-- R107, row by row: no operand bytes. -/
theorem alu_row : ∀ mid low : BitVec 3, (Instr.alu (aluOfCode mid) (operandOfCode low)).wellFormed = true
    ∧ encode (.alu (aluOfCode mid) (operandOfCode low)) = [opcodeOf 2 mid low] ∧ opcodeLength (opcodeOf 2 mid low) = 1 := by
  decide

/-- R108, row by row: operands as in R105. -/
theorem decodeQuadrant3_readAt (mid low : BitVec 3) (w : Word) :
    (decodeQuadrant3 (opcodeOf 3 mid low) (lo8 w) w).ReadAt (opcodeOf 3 mid low) (lo8 w) (hi8 w) := by
  rcases code_cases low with rfl | rfl | rfl | rfl | rfl | rfl | rfl | rfl <;>
    rcases code_cases mid with rfl | rfl | rfl | rfl | rfl | rfl | rfl | rfl <;> exact ⟨rfl, rfl⟩

theorem decodeBytes_opcodeOf_readAt (q : BitVec 2) (mid low : BitVec 3) (b1 b2 : Byte) :
    (decodeBytes (opcodeOf q mid low) b1 b2).ReadAt (opcodeOf q mid low) b1 b2 := by
  rcases quadrant_cases q with rfl | rfl | rfl | rfl
  · simpa [decodeBytes] using decodeQuadrant0_readAt mid low (cat16 b2 b1)
  · simpa [decodeBytes] using Instr.readAt_of_one_byte b1 b2 (mov_row mid low)
  · simpa [decodeBytes] using Instr.readAt_of_one_byte b1 b2 (alu_row mid low)
  · simpa [decodeBytes] using decodeQuadrant3_readAt mid low (cat16 b2 b1)

theorem decodeBytes_readAt (op b1 b2 : Byte) : (decodeBytes op b1 b2).ReadAt op b1 b2 := by
  have h := decodeBytes_opcodeOf_readAt (op.extractLsb' 6 2) (op.extractLsb' 3 3) (op.extractLsb' 0 3) b1 b2
  rwa [opcodeOf_fields] at h

theorem length_encode_decodeBytes (op b1 b2 : Byte) : (encode (decodeBytes op b1 b2)).length = opcodeLength op := by
  obtain ⟨-, henc⟩ := decodeBytes_readAt op b1 b2
  rw [henc, List.length_take]
  exact Nat.min_eq_left (opcodeLength_le_three op)

theorem decodeBytes_of_mem_illegalOpcodes {op : Byte} (h : op ∈ illegalOpcodes) (b1 b2 : Byte) :
    decodeBytes op b1 b2 = .illegal op := by
  simp only [illegalOpcodes, List.mem_cons, List.not_mem_nil, or_false] at h
  rcases h with rfl | rfl | rfl | rfl | rfl | rfl | rfl | rfl | rfl | rfl | rfl | rfl <;> rfl

/-! ### The decoder on a list of bytes -/

/-- The instruction that the first three bytes of a list hold, an operand byte that is not there read as 0. -/
def decodeHead : List Byte → Option Instr
  | [] => none
  | op :: tl => some (decodeBytes op (tl.getD 0 0) (tl.getD 1 0))

/-- The decoder reads the instruction that the first bytes hold if the list has all its bytes, and drops these. -/
theorem decode_eq_instr_iff {bytes rest : List Byte} {i : Instr} : decode bytes = .instr i rest ↔
    decodeHead bytes = some i ∧ (encode i).length ≤ bytes.length ∧ bytes.drop (encode i).length = rest := by
  cases bytes with
  | nil => simp [decode, decodeHead]
  | cons op tl =>
    have hdrop : (op :: tl).drop (opcodeLength op) = tl.drop (opcodeLength op - 1) := List.drop_cons (opcodeLength_pos op)
    have hlen : ∀ j, decodeBytes op (tl.getD 0 0) (tl.getD 1 0) = j → (encode j).length = opcodeLength op := by
      rintro j rfl
      exact length_encode_decodeBytes op _ _
    simp only [decode, decodeHead, Option.some.injEq, List.length_cons]
    split_ifs with hshort
    · simp only [false_iff]
      rintro ⟨hi, hfits, -⟩
      have := hlen i hi
      omega
    · simp only [Decoded.instr.injEq]
      refine and_congr_right fun hi => ?_
      rw [hlen i hi, hdrop]
      exact (and_iff_right (Nat.le_of_not_lt hshort)).symm

/-- The first bytes of a list, up to three, are those that `decodeHead` reads. -/
theorem take_cons_getD {op : Byte} {tl : List Byte} {n : Nat} (h3 : n ≤ 3) (h : n ≤ (op :: tl).length) :
    [op, tl.getD 0 0, tl.getD 1 0].take n = (op :: tl).take n := by
  match tl with
  | [] => exact List.take_append_of_le_length (l₁ := [op]) h
  | [a] => exact List.take_append_of_le_length (l₁ := [op, a]) h
  | a :: b :: tl => exact (List.take_append_of_le_length (l₁ := [op, a, b]) h3).symm

theorem decodeHead_wellFormed {bytes : List Byte} {i : Instr} (h : decodeHead bytes = some i) : i.wellFormed = true := by
  cases bytes with
  | nil => cases h
  | cons op tl =>
    cases h
    obtain ⟨hwf, -⟩ := decodeBytes_readAt op (tl.getD 0 0) (tl.getD 1 0)
    exact hwf

theorem encode_eq_take {bytes : List Byte} {i : Instr} (h : decodeHead bytes = some i)
    (hfits : (encode i).length ≤ bytes.length) : encode i = bytes.take (encode i).length := by
  cases bytes with
  | nil => cases h
  | cons op tl =>
    cases h
    obtain ⟨-, henc⟩ := decodeBytes_readAt op (tl.getD 0 0) (tl.getD 1 0)
    rw [length_encode_decodeBytes] at hfits ⊢
    rw [henc, take_cons_getD (opcodeLength_le_three op) hfits]

/-- Settles O3: by the row of the opcode, the encoding is the first bytes of the list; the decoder drops as many. -/
theorem encodeGivesBackDecoded : Obligations.EncodeGivesBackDecoded := by
  unfold Obligations.EncodeGivesBackDecoded
  intro bytes rest i h
  obtain ⟨hhead, hfits, rfl⟩ := decode_eq_instr_iff.1 h
  refine ⟨decodeHead_wellFormed hhead, ?_⟩
  calc encode i ++ bytes.drop (encode i).length
      = bytes.take (encode i).length ++ bytes.drop (encode i).length := by rw [← encode_eq_take hhead hfits]
    _ = bytes := List.take_append_drop _ _

/-! ### From the instruction: its bytes hold it -/

theorem decodeHead_encode {i : Instr} (hi : i.wellFormed = true) (rest : List Byte) :
    decodeHead (encode i ++ rest) = some i := by
  cases i.shape with
  | illegal op => exact congrArg some (decodeBytes_of_mem_illegalOpcodes ((wellFormed_illegal_iff op).1 hi) _ _)
  | movRR dst src => cases dst <;> cases src <;> rfl
  | movRM dst => cases dst <;> rfl
  | movMR src => cases src <;> rfl
  | mvi d o =>
    rcases o with r | _
    · cases r <;> rfl
    · rfl
  | inr o | dcr o =>
    rcases o with r | _
    · cases r <;> rfl
    · rfl
  | alu op o =>
    rcases o with r | _
    · cases op <;> cases r <;> rfl
    · cases op <;> rfl
  | aluImm d op => cases op <;> rfl
  | inx p | dcx p | dad p | ldax p | stax p | push p | pop p => cases p <;> rfl
  | rcc cond => cases cond <;> rfl
  | rst n => rcases code_cases n with rfl | rfl | rfl | rfl | rfl | rfl | rfl | rfl <;> rfl
  | lxi d p =>
    have h : decodeHead (encode (.lxi d p) ++ rest) = some (.lxi (cat16 (hi8 d) (lo8 d)) p) := by cases p <;> rfl
    rw [h, cat16_hi8_lo8]
  | jcc a cond =>
    have h : decodeHead (encode (.jcc a cond) ++ rest) = some (.jcc (cat16 (hi8 a) (lo8 a)) cond) := by cases cond <;> rfl
    rw [h, cat16_hi8_lo8]
  | ccc a cond =>
    have h : decodeHead (encode (.ccc a cond) ++ rest) = some (.ccc (cat16 (hi8 a) (lo8 a)) cond) := by cases cond <;> rfl
    rw [h, cat16_hi8_lo8]
  | shld a => exact congrArg (some ∘ Instr.shld) (cat16_hi8_lo8 a)
  | lhld a => exact congrArg (some ∘ Instr.lhld) (cat16_hi8_lo8 a)
  | sta a => exact congrArg (some ∘ Instr.sta) (cat16_hi8_lo8 a)
  | lda a => exact congrArg (some ∘ Instr.lda) (cat16_hi8_lo8 a)
  | jmp a => exact congrArg (some ∘ Instr.jmp) (cat16_hi8_lo8 a)
  | call a => exact congrArg (some ∘ Instr.call) (cat16_hi8_lo8 a)
  | _ => rfl

/-- Settles O2: the bytes hold the instruction, the list has them all, and what is left after them is the rest. -/
theorem decodeGivesBackEncoded : Obligations.DecodeGivesBackEncoded := by
  unfold Obligations.DecodeGivesBackEncoded
  intro i rest hi
  refine decode_eq_instr_iff.2 ⟨decodeHead_encode hi rest, ?fits, List.drop_left⟩
  case fits => rw [List.length_append]; omega

/-! ### Lengths and illegal opcodes -/

/-- Settles O4: the encoding is as long as the opcode byte says, which the masks say too. -/
theorem lengthFollowsOpcode : Obligations.LengthFollowsOpcode := by
  unfold Obligations.LengthFollowsOpcode
  intro op b1 b2 _
  exact (length_encode_decodeBytes op b1 b2).trans (opcodeLength_eq_masks op)

/-- Settles O5: the one byte of an ILLEGAL that is read is the opcode, and one of the twelve since what is read is well formed. -/
theorem illegalOpcodesAreTheTwelve : Obligations.IllegalOpcodesAreTheTwelve := by
  unfold Obligations.IllegalOpcodesAreTheTwelve
  intro op b1 b2 o
  constructor
  · intro h
    obtain ⟨hwf, henc⟩ := decodeBytes_readAt op b1 b2
    have hlen : 1 = opcodeLength op := by rw [← length_encode_decodeBytes op b1 b2, h]; rfl
    rw [h, ← hlen] at henc
    obtain rfl : o = op := List.singleton_injective henc
    exact ⟨rfl, (wellFormed_illegal_iff o).1 (h ▸ hwf)⟩
  · rintro ⟨rfl, hmem⟩
    exact decodeBytes_of_mem_illegalOpcodes hmem b1 b2

/-- Settles O1 by running the decoder on each word. -/
theorem sampleWordsDecode : Obligations.SampleWordsDecode := by
  unfold Obligations.SampleWordsDecode
  exact ⟨rfl, rfl, rfl, rfl, rfl, rfl, rfl, rfl, rfl, rfl, rfl, rfl, rfl, rfl⟩

end Sys2Proof
end

section
/-! SUPPORT. The step of a running and of a halted block, and its count (30_encoding.md R110, R111, R113). -/

namespace Sys2Proof.Machine

/-! ### The decoded instruction -/

/-- `fetch` is what the bytes from PC on hold. -/
theorem decodeHead_fetchBytes (s : State) : decodeHead s.fetchBytes = some s.fetch := rfl

theorem fetch_of_decode {s : State} {i : Instr} {rest : List Byte} (h : decode s.fetchBytes = .instr i rest) : s.fetch = i := by
  obtain ⟨hhead, -, -⟩ := decode_eq_instr_iff.1 h
  exact Option.some.inj ((decodeHead_fetchBytes s).symm.trans hhead)

theorem step_running {s : State} (hf : s.fault = none) (hh : s.halted = false) : step s = exec s.fetch s := by
  simp [step, hf, hh]

/-- Settles O6: the three bytes are those that `fetch` reads, and a running block runs what it fetches. -/
theorem stepRunsDecodedInstruction : Obligations.StepRunsDecodedInstruction := by
  unfold Obligations.StepRunsDecodedInstruction
  intro s i rest hf hh h
  rw [step_running hf hh, fetch_of_decode h]

/-! ### The count -/

theorem stepCycles_running (P : Config.Params) {s : State} (hh : s.halted = false) : stepCycles P s = P.cycles (s.read s.pc) := by
  simp [stepCycles, hh]

theorem stepCycles_halted (P : Config.Params) {s : State} (hh : s.halted = true) : stepCycles P s = P.haltIdleCycles := by
  simp [stepCycles, hh]

/-- Settles O58: `step` takes no table, and the count of a running block is the table's at the opcode. -/
theorem cyclesAreOfTheOpcode : Obligations.CyclesAreOfTheOpcode := by
  unfold Obligations.CyclesAreOfTheOpcode
  intro P s t n hh h
  obtain ⟨hstep, rfl⟩ := timedStep_next.1 h
  exact ⟨stepCycles_running P hh, fun Q => timedStep_next.2 ⟨hstep, (stepCycles_running Q hh).symm⟩⟩

/-! ### The halted block -/

theorem step_halted {s : State} (hf : s.fault = none) (hh : s.halted = true) : step s = .next s := by
  simp [step, hf, hh, State.idle]

theorem raise_masked {s : State} (hi : s.ie = false) {v : Nat} (hv : v ≤ 7) : raise v s = .next s := by
  rcases raise_cases v s with ⟨hgt, -⟩ | ⟨-, -, hie, -⟩ | ⟨-, -, hr⟩
  · omega
  · rw [hi] at hie
    cases hie
  · exact hr

theorem raise_delivered {s : State} (hf : s.fault = none) (hi : s.ie = true) {v : Nat} (hv : v ≤ 7) :
    raise v s = .next (s.interruptEntry v) := by
  rcases raise_cases v s with ⟨hgt, -⟩ | ⟨-, -, -, hr⟩ | ⟨-, hf' | hi', -⟩
  · omega
  · exact hr
  · exact absurd hf hf'
  · rw [hi] at hi'
    cases hi'

/-- With IE false a halted block stays as it is at every move of the host. -/
theorem hostMove_halted {s : State} (hf : s.fault = none) (hh : s.halted = true) (hi : s.ie = false) (m : HostMove) :
    hostMove m s = .next s := by
  cases m with
  | none => exact step_halted hf hh
  | some v => exact raise_masked hi (Nat.le_of_lt_succ v.isLt)

/-- Settles O9: the idle step leaves the state as it is, so any number of them does; so does a masked interrupt; one that is
delivered enters at its vector with HALTED cleared and the PC pushed. -/
theorem haltedBlockIdles : Obligations.HaltedBlockIdles := by
  unfold Obligations.HaltedBlockIdles
  intro s hf hh
  have hstep : step s = .next s := step_halted hf hh
  refine ⟨fun P => timedStep_next.2 ⟨hstep, (stepCycles_halted P hh).symm⟩, rfl, fun n => run_of_step_self core n s hstep,
    fun hi => hostMoves_of_each_self (hostMove_halted hf hh hi), fun hi v hv => ?delivered⟩
  case delivered =>
    obtain ⟨hpc, -, htop, -⟩ := interruptEntry_spec s v
    exact ⟨_, raise_delivered hf hi hv, s.interruptEntry_halted v, hpc, htop⟩

end Sys2Proof.Machine
end

section
/-! SUPPORT. PC through an instruction that names no target (30_encoding.md R112). -/

namespace Sys2Proof.Machine

/-! ### The length of each family that has operands -/

theorem length_encode_movRR (dst src : Reg) : (encode (.movRR dst src)).length = 1 := by cases dst <;> cases src <;> rfl

theorem length_encode_movRM (dst : Reg) : (encode (.movRM dst)).length = 1 := by cases dst <;> rfl

theorem length_encode_movMR (src : Reg) : (encode (.movMR src)).length = 1 := by cases src <;> rfl

theorem length_encode_mvi (d : Byte) (o : Operand) : (encode (.mvi d o)).length = 2 := by
  rcases o with r | _
  · cases r <;> rfl
  · rfl

theorem length_encode_inr (o : Operand) : (encode (.inr o)).length = 1 := by
  rcases o with r | _
  · cases r <;> rfl
  · rfl

theorem length_encode_dcr (o : Operand) : (encode (.dcr o)).length = 1 := by
  rcases o with r | _
  · cases r <;> rfl
  · rfl

theorem length_encode_alu (op : AluOp) (o : Operand) : (encode (.alu op o)).length = 1 := by
  rcases o with r | _
  · cases op <;> cases r <;> rfl
  · cases op <;> rfl

theorem length_encode_aluImm (d : Byte) (op : AluOp) : (encode (.aluImm d op)).length = 2 := by cases op <;> rfl

/-! ### Where PC is left -/

/-- The next state of an outcome, if it has one, has PC at `pc`. -/
def EndsAt (pc : Word) (r : Result) : Prop := ∀ t, r = .next t → t.pc = pc

theorem endsAt_next {pc : Word} {t : State} (h : t.pc = pc) : EndsAt pc (.next t) := by
  rintro u ⟨⟩
  exact h

theorem transfers_jcc (a : Word) (cond : Cond) : Transfers (.jcc a cond) := by cases cond <;> trivial

theorem transfers_ccc (a : Word) (cond : Cond) : Transfers (.ccc a cond) := by cases cond <;> trivial

theorem transfers_rcc (cond : Cond) : Transfers (.rcc cond) := by cases cond <;> trivial

theorem transfers_rst (n : BitVec 3) : Transfers (.rst n) := by
  unfold Instr.rst
  split <;> trivial

/-- Every instruction is a control transfer or leaves PC after its encoding. ILLEGAL leaves no next state. -/
theorem exec_endsAt_or_transfers (i : Instr) (s : State) :
    EndsAt (s.pc + BitVec.ofNat 16 (encode i).length) (exec i s) ∨ Transfers i := by
  cases i.shape with
  | jcc a cond => exact .inr (transfers_jcc a cond)
  | ccc a cond => exact .inr (transfers_ccc a cond)
  | rcc cond => exact .inr (transfers_rcc cond)
  | rst n => exact .inr (transfers_rst n)
  | jmp a | call a | ret | pchl => exact .inr trivial
  | illegal op => exact .inl fun t h => by rw [exec_illegal] at h; cases h
  | movRR dst src => rw [exec_movRR, length_encode_movRR]; exact .inl (endsAt_next rfl)
  | movRM dst => rw [exec_movRM, length_encode_movRM]; exact .inl (endsAt_next rfl)
  | movMR src => rw [exec_movMR, length_encode_movMR]; exact .inl (endsAt_next rfl)
  | mvi d o => rw [exec_mvi, length_encode_mvi]; exact .inl (endsAt_next (by simp))
  | inr o => rw [exec_inr, length_encode_inr]; exact .inl (endsAt_next (by simp))
  | dcr o => rw [exec_dcr, length_encode_dcr]; exact .inl (endsAt_next (by simp))
  | alu op o => rw [exec_alu, length_encode_alu]; exact .inl (endsAt_next rfl)
  | aluImm d op => rw [exec_aluImm, length_encode_aluImm]; exact .inl (endsAt_next rfl)
  | lxi d p | inx p | dcx p | dad p | ldax p | stax p | push p | pop p => cases p <;> exact .inl (endsAt_next rfl)
  | _ => exact .inl (endsAt_next rfl)

/-- Settles O17: the instruction is no control transfer, so it leaves PC after its encoding. -/
theorem programCounterAdvances : Obligations.ProgramCounterAdvances := by
  unfold Obligations.ProgramCounterAdvances
  intro i s t h hi
  exact (exec_endsAt_or_transfers i s).resolve_right hi t h

end Sys2Proof.Machine
end

section
/-! SUPPORT. Data movement (41_data_movement.md), and the obligations that state it. Most rules have one of four shapes, a register
loaded, a byte stored, a pair loaded, a word stored, and each shape has its lemmas on the bytes moved and on the frame. -/

namespace Sys2Proof.Machine

/-! ### Words in memory (20_memory.md R52) -/

@[simp] theorem State.lo8_readWord (s : State) (a : Word) : lo8 (s.readWord a) = s.read a := lo8_cat16 _ _

@[simp] theorem State.hi8_readWord (s : State) (a : Word) : hi8 (s.readWord a) = s.read (a + 1) := hi8_cat16 _ _

@[simp] theorem State.lo8_top (s : State) : lo8 s.top = s.read s.sp := s.lo8_readWord s.sp

@[simp] theorem State.hi8_top (s : State) : hi8 s.top = s.read (s.sp + 1) := s.hi8_readWord s.sp

theorem State.read_writeWord_low (s : State) (a v : Word) : (s.writeWord a v).read a = lo8 v := by
  rw [← State.lo8_readWord, State.readWord_writeWord]

theorem State.read_writeWord_high (s : State) (a v : Word) : (s.writeWord a v).read (a + 1) = hi8 v := by
  rw [← State.hi8_readWord, State.readWord_writeWord]

/-- Storing at some addresses changes the bytes there and no others. -/
theorem State.sameMemBut_of_storesAt {s t : State} {as : List Word} (h : s.mem.StoresAt as t.mem) : s.SameMemBut t as :=
  fun _ hx => h.read_other hx

theorem State.sameMem_of_mem_eq {s t : State} (h : t.mem = s.mem) : s.SameMem t := State.read_congr h

theorem State.sameSystem_of_eq {s t : State} (h : t.system = s.system) : s.SameSystem t := by
  simpa [State.system, State.SameSystem] using h

/-! ### What a register or a pair write leaves alone (10_state.md R21, R23) -/

theorem State.SameRegsBut.trans {s t u : State} {as bs : List Reg} (hst : s.SameRegsBut t as) (htu : t.SameRegsBut u bs) :
    s.SameRegsBut u (as ++ bs) := by
  intro q hq
  obtain ⟨ha, hb⟩ : q ∉ as ∧ q ∉ bs := by simpa using hq
  rw [htu q hb, hst q ha]

theorem State.sameRegsBut_setReg (s : State) (r : Reg) (v : Byte) : s.SameRegsBut (s.setReg r v) [r] :=
  fun _ hq => Regs.get_set_other s.regs v (List.mem_singleton.not.mp hq)

/-- A write of a pair is a write of its two registers; a write of SP reaches no register of the file. -/
theorem State.sameRegsBut_setPair (s : State) (p : Pair) (v : Word) : s.SameRegsBut (s.setPair p v) (pairRegs p) := by
  cases p with
  | bc => exact (s.sameRegsBut_setReg .b (hi8 v)).trans (State.sameRegsBut_setReg _ .c (lo8 v))
  | de => exact (s.sameRegsBut_setReg .d (hi8 v)).trans (State.sameRegsBut_setReg _ .e (lo8 v))
  | hl => exact (s.sameRegsBut_setReg .h (hi8 v)).trans (State.sameRegsBut_setReg _ .l (lo8 v))
  | sp => exact fun _ _ => rfl

theorem State.setPair_sp_of_ne (s : State) {p : Pair} (v : Word) (hp : p ≠ .sp) : (s.setPair p v).sp = s.sp := by
  cases p with
  | bc | de | hl => rfl
  | sp => exact absurd rfl hp

theorem State.sameSystem_setPair (s : State) (p : Pair) (v : Word) : s.SameSystem (s.setPair p v) :=
  ⟨s.setPair_ie p v, s.setPair_halted p v, s.setPair_fault p v, s.setPair_ports p v, s.setPair_driver p v⟩

/-! ### The forms that load a register or store a byte -/

/-- An outcome that loads a register and steps PC over the instruction (R200, R201, R203, R206, R210). -/
theorem exists_next_of_setReg {o : Result} {s : State} {r : Reg} {v : Byte} {len : Word}
    (h : o = .next ((s.setReg r v).advance len)) :
    ∃ t, o = .next t ∧ t.regs.get r = v ∧ s.SameRegsBut t [r] ∧ t.sp = s.sp ∧ t.pc = s.pc + len ∧ t.flags = s.flags
      ∧ s.SameMem t ∧ s.SameSystem t :=
  ⟨_, h, Regs.get_set_same s.regs r v, s.sameRegsBut_setReg r v, rfl, rfl, rfl, State.sameMem_of_mem_eq rfl,
    State.sameSystem_of_eq rfl⟩

/-- An outcome that stores a byte and steps PC over the instruction (R202, R204, R207, R211). -/
theorem exists_next_of_write {o : Result} {s : State} {a : Word} {v : Byte} {len : Word}
    (h : o = .next ((s.write a v).advance len)) :
    ∃ t, o = .next t ∧ t.read a = v ∧ s.SameMemBut t [a] ∧ t.regs = s.regs ∧ t.sp = s.sp ∧ t.pc = s.pc + len
      ∧ t.flags = s.flags ∧ s.SameSystem t :=
  ⟨_, h, s.read_write_same a v, State.sameMemBut_of_storesAt (s.storesAt_write a v), rfl, rfl, rfl, rfl,
    State.sameSystem_of_eq rfl⟩

/-- Settles O23: all 49 moves are one register write. -/
theorem movCopiesRegister : Obligations.MovCopiesRegister := by
  unfold Obligations.MovCopiesRegister
  exact fun dst src s => exists_next_of_setReg (exec_movRR dst src s)

/-- Settles O24: M is read and written at the H:L of before. -/
theorem movThroughMemoryOperand : Obligations.MovThroughMemoryOperand := by
  unfold Obligations.MovThroughMemoryOperand
  refine ⟨fun dst s => ?load, fun src s => ?store, fun d s => ?immediate⟩
  case load => exact exists_next_of_setReg (exec_movRM dst s)
  case store => exact exists_next_of_write (exec_movMR src s)
  case immediate => exact exists_next_of_write (exec_mvi d .m s)

/-- Settles O25: MVI is a register write and LXI a pair write. -/
theorem immediateLoads : Obligations.ImmediateLoads := by
  unfold Obligations.ImmediateLoads
  refine ⟨fun r d s => ?register, fun p d s => ?pair⟩
  case register => exact exists_next_of_setReg (exec_mvi d (.reg r) s)
  case pair =>
    refine ⟨_, exec_lxi d p s, ?value, s.sameRegsBut_setPair p d, s.setPair_sp_of_ne d, ?pc, s.setPair_flags p d,
      State.sameMem_of_mem_eq (s.setPair_mem p d), s.sameSystem_setPair p d⟩
    case value => rw [State.pair_advance, State.pair_setPair_same]
    case pc => rw [State.advance_pc, State.setPair_pc]

/-- Settles O26: the three are a write of A. -/
theorem accumulatorLoads : Obligations.AccumulatorLoads := by
  unfold Obligations.AccumulatorLoads
  refine ⟨fun a s => ?direct, fun p s => ?indirect⟩
  case direct => exact exists_next_of_setReg (r := .a) rfl
  case indirect => exact exists_next_of_setReg (exec_ldax p s)

/-- Settles O27: the three are a store of A. -/
theorem accumulatorStores : Obligations.AccumulatorStores := by
  unfold Obligations.AccumulatorStores
  refine ⟨fun a s => ?direct, fun p s => ?indirect⟩
  case direct => exact exists_next_of_write rfl
  case indirect => exact exists_next_of_write (exec_stax p s)

/-! ### The forms that move a pair -/

/-- Settles O28: LHLD is a write of H:L with the word at the address, SHLD a store of H:L there. -/
theorem hlLoadAndStore : Obligations.HlLoadAndStore := by
  unfold Obligations.HlLoadAndStore
  intro a s
  refine ⟨⟨_, rfl, s.lo8_readWord a, s.hi8_readWord a, s.sameRegsBut_setPair .hl (s.readWord a), rfl, rfl, rfl,
    State.sameMem_of_mem_eq rfl, State.sameSystem_of_eq rfl⟩, ⟨_, rfl, ?low, ?high,
    State.sameMemBut_of_storesAt (s.storesAt_writeWord a (s.pair .hl)), rfl, rfl, rfl, rfl, State.sameSystem_of_eq rfl⟩⟩
  case low => exact (s.read_writeWord_low a (s.pair .hl)).trans (lo8_cat16 _ _)
  case high => exact (s.read_writeWord_high a (s.pair .hl)).trans (hi8_cat16 _ _)

/-- Settles O29: XCHG is two pair writes, each with the other pair of before, and SPHL a write of SP. -/
theorem exchangeAndSetStackPointer : Obligations.ExchangeAndSetStackPointer := by
  unfold Obligations.ExchangeAndSetStackPointer
  intro s
  have hframe := (s.sameRegsBut_setPair .de (s.pair .hl)).trans (State.sameRegsBut_setPair _ .hl (s.pair .de))
  refine ⟨?xchg, ?sphl⟩
  case xchg =>
    exact ⟨_, rfl, hi8_cat16 _ _, lo8_cat16 _ _, hi8_cat16 _ _, lo8_cat16 _ _, hframe, rfl, rfl, rfl,
      State.sameMem_of_mem_eq rfl, State.sameSystem_of_eq rfl⟩
  case sphl => exact ⟨_, rfl, rfl, rfl, rfl, rfl, State.sameMem_of_mem_eq rfl, State.sameSystem_of_eq rfl⟩

/-! ### The stack forms -/

/-- The four forms of PUSH are one push of the two bytes of 10_state.md R24. -/
theorem exec_push (p : StackPair) (s : State) :
    exec (.push p) s = pushOp (cat16 (pushedBytes s p).1 (pushedBytes s p).2) s := by cases p <;> rfl

/-- What a POP of a pair does besides loading it (R215). SP is no pair of a POP. -/
theorem popPairOp_frame {p : Pair} {s t : State} (h : popPairOp p s = .next t) (hp : p ≠ .sp) :
    s.SameRegsBut t (pairRegs p) ∧ t.flags = s.flags ∧ t.sp = s.sp + 2 ∧ t.pc = s.pc + 1 ∧ s.SameMem t ∧ s.SameSystem t := by
  cases h
  refine ⟨s.dropTop.sameRegsBut_setPair p s.top, ?flags, s.dropTop.setPair_sp_of_ne s.top hp, ?pc,
    State.sameMem_of_mem_eq (s.dropTop.setPair_mem p s.top), s.dropTop.sameSystem_setPair p s.top⟩
  case flags => rw [State.advance_flags, State.setPair_flags, State.dropTop_flags]
  case pc => rw [State.advance_pc, State.setPair_pc, State.dropTop_pc]

/-- POP PSW by the two bytes it reads (R216). -/
theorem popPswOp_eq (s : State) : popPswOp s =
    .next ({ s.dropTop.setReg .a (s.read (s.sp + 1)) with flags := Flags.ofByte (s.read s.sp) }.advance 1) := by
  rw [popPswOp, State.hi8_top, State.lo8_top]

/-- POP PSW of a top word that packs A and flags loads those (R216, R31). -/
theorem popPswOp_of_top {s : State} {a : Byte} {f : Flags} (h : s.top = cat16 a f.toByte) :
    popPswOp s = .next ({ s.dropTop.setReg .a a with flags := f }.advance 1) := by
  rw [popPswOp, h, hi8_cat16, lo8_cat16, Flags.ofByte_toByte]

/-- Settles O30: the four forms are one push. -/
theorem pushStoresTwoBytes : Obligations.PushStoresTwoBytes := by
  unfold Obligations.PushStoresTwoBytes
  intro p s
  refine ⟨_, exec_push p s, ?high, ?low, rfl, s.sameMemBut_push _, rfl, rfl, rfl, State.sameSystem_of_eq rfl⟩
  case high => exact (s.read_push_high _).trans (hi8_cat16 _ _)
  case low => exact (s.read_push_low _).trans (lo8_cat16 _ _)

/-- Settles O31: the first three forms are a pop of a pair; PSW takes A and each flag from the two bytes. -/
theorem popLoadsTwoBytes : Obligations.PopLoadsTwoBytes := by
  unfold Obligations.PopLoadsTwoBytes
  intro s
  refine ⟨?bc, ?de, ?hl, ?psw⟩
  case psw =>
    exact ⟨_, popPswOp_eq s, rfl, s.dropTop.sameRegsBut_setReg .a (s.read (s.sp + 1)), rfl, rfl, rfl, rfl, rfl, rfl, rfl,
      State.sameMem_of_mem_eq rfl, State.sameSystem_of_eq rfl⟩
  all_goals exact ⟨_, rfl, s.lo8_top, s.hi8_top, popPairOp_frame rfl (by decide)⟩

/-- Settles O32: a store of H:L at SP, then a write of H:L with the word that was there. -/
theorem exchangeTopOfStack : Obligations.ExchangeTopOfStack := by
  unfold Obligations.ExchangeTopOfStack
  intro s
  refine ⟨_, rfl, s.lo8_top, s.hi8_top, ?low, ?high, State.sameMemBut_of_storesAt (s.storesAt_writeWord s.sp _),
    State.sameRegsBut_setPair (s.writeWord s.sp (s.pair .hl)) .hl s.top, rfl, rfl, rfl, State.sameSystem_of_eq rfl⟩
  case low => exact (s.read_writeWord_low s.sp (s.pair .hl)).trans (lo8_cat16 _ _)
  case high => exact (s.read_writeWord_high s.sp (s.pair .hl)).trans (hi8_cat16 _ _)

/-- Settles O33: the word popped is the word pushed, and the flag byte in it keeps every flag. -/
theorem pushPopPswRoundTrip : Obligations.PushPopPswRoundTrip := by
  unfold Obligations.PushPopPswRoundTrip
  intro s
  have htop : ((s.push s.psw).advance 1).top = s.psw := (State.top_congr rfl rfl).trans (s.top_push s.psw)
  refine ⟨_, _, rfl, popPswOp_of_top htop, Regs.set_get_self s.regs .a, rfl, ?sp, ?pc, s.sameMemBut_push s.psw⟩
  case sp => exact BitVec.sub_add_cancel s.sp 2
  case pc => exact BitVec.add_assoc s.pc 1 1

end Sys2Proof.Machine
end

section
/-! SUPPORT. The arithmetic functions as numbers (42_arithmetic.md R300 to R303, R322, R323), then what an instruction that writes a
result and flags leaves alone, and the obligations that put the two together. -/

namespace Sys2Proof.Machine

/-! ### The byte operations: result, CY, AC, and Z, S, P -/

theorem lowNibble_eq_mod (v : Byte) : lowNibble v = v.toNat % 16 := by
  have hmask : (0x0F : Byte).toNat = 2 ^ 4 - 1 := rfl
  rw [lowNibble, BitVec.toNat_and, hmask, Nat.and_two_pow_sub_one_eq_mod]

theorem add8_toNat (a v : Byte) (cin : Bool) : (add8 a v cin).1.toNat = (a.toNat + v.toNat + cin.toNat) % 256 :=
  BitVec.toNat_ofNat _ 8

theorem add8_cy_iff (a v : Byte) (cin : Bool) : (add8 a v cin).2.cy = true ↔ a.toNat + v.toNat + cin.toNat > 255 :=
  decide_eq_true_iff

theorem add8_ac_iff (a v : Byte) (cin : Bool) :
    (add8 a v cin).2.ac = true ↔ a.toNat % 16 + v.toNat % 16 + cin.toNat > 15 := by
  simp [add8, lowNibble_eq_mod]

theorem add8_show (a v : Byte) (cin : Bool) : (add8 a v cin).2.Show (add8 a v cin).1 := Flags.zsp_show (add8 a v cin).2 _

/-- The 16-bit difference of R301, which wraps below zero. -/
theorem toNat_wide_sub (a v : Byte) (bin : Bool) :
    (a.setWidth 16 - v.setWidth 16 - BitVec.ofNat 16 bin.toNat).toNat
      = if a.toNat < v.toNat + bin.toNat then 65536 + a.toNat - v.toNat - bin.toNat else a.toNat - v.toNat - bin.toNat := by
  have ha := a.isLt
  have hv := v.isLt
  have hbin := bin.toNat_le
  simp only [BitVec.toNat_sub, BitVec.toNat_setWidth, BitVec.toNat_ofNat]
  split <;> omega

/-- The low byte of the wide difference is the difference of the bytes. -/
theorem sub8_fst (a v : Byte) (bin : Bool) : (sub8 a v bin).1 = a - v - BitVec.ofNat 8 bin.toNat := by
  have hv := v.isLt
  have hbin := bin.toNat_le
  apply BitVec.eq_of_toNat_eq
  rw [sub8, lo8_toNat, toNat_wide_sub, BitVec.toNat_sub, BitVec.toNat_sub, BitVec.toNat_ofNat]
  split <;> omega

theorem sub8_add_back (a v : Byte) (bin : Bool) : ((sub8 a v bin).1.toNat + v.toNat + bin.toNat) % 256 = a.toNat := by
  have ha := a.isLt
  have hv := v.isLt
  have hbin := bin.toNat_le
  simp only [sub8, lo8_toNat, toNat_wide_sub]
  split <;> omega

theorem sub8_cy_iff (a v : Byte) (bin : Bool) : (sub8 a v bin).2.cy = true ↔ a.toNat < v.toNat + bin.toNat := by
  have ha := a.isLt
  have hv := v.isLt
  have hbin := bin.toNat_le
  simp only [sub8, toNat_wide_sub, decide_eq_true_iff]
  split <;> omega

theorem sub8_ac_iff (a v : Byte) (bin : Bool) :
    (sub8 a v bin).2.ac = true ↔ a.toNat % 16 < v.toNat % 16 + bin.toNat := by
  simp [sub8, lowNibble_eq_mod]

theorem sub8_show (a v : Byte) (bin : Bool) : (sub8 a v bin).2.Show (sub8 a v bin).1 := Flags.zsp_show (sub8 a v bin).2 _

theorem sub8_subtractionFlags (a v : Byte) (bin : Bool) : SubtractionFlags (sub8 a v bin).2 a v bin :=
  ⟨sub8_cy_iff a v bin, sub8_ac_iff a v bin, sub8_fst a v bin ▸ sub8_show a v bin⟩

theorem inc8_toNat (v : Byte) (f : Flags) : (inc8 v f).1.toNat = (v.toNat + 1) % 256 := BitVec.toNat_add v 1

theorem inc8_ac_iff (v : Byte) (f : Flags) : (inc8 v f).2.ac = true ↔ v.toNat % 16 = 15 := by
  simp [inc8, lowNibble_eq_mod]

theorem inc8_show (v : Byte) (f : Flags) : (inc8 v f).2.Show (inc8 v f).1 := Flags.zsp_show f _

theorem inc8_cy (v : Byte) (f : Flags) : (inc8 v f).2.cy = f.cy := rfl

theorem dec8_add_one (v : Byte) (f : Flags) : ((dec8 v f).1.toNat + 1) % 256 = v.toNat :=
  (BitVec.toNat_add (v - 1) 1).symm.trans (congrArg BitVec.toNat (BitVec.sub_add_cancel v 1))

theorem dec8_ac_iff (v : Byte) (f : Flags) : (dec8 v f).2.ac = true ↔ v.toNat % 16 = 0 := by
  simp [dec8, lowNibble_eq_mod]

theorem dec8_show (v : Byte) (f : Flags) : (dec8 v f).2.Show (dec8 v f).1 := Flags.zsp_show f _

theorem dec8_cy (v : Byte) (f : Flags) : (dec8 v f).2.cy = f.cy := rfl

/-! ### The 16-bit sum (R322) -/

theorem add16_toNat (x y : Word) : (add16 x y).1.toNat = (x.toNat + y.toNat) % 65536 := BitVec.toNat_ofNat _ 16

theorem add16_carry_iff (x y : Word) : (add16 x y).2 = true ↔ x.toNat + y.toNat > 65535 := decide_eq_true_iff

/-! ### The two adjustments of DAA (R323, 92_eei_decisions.md D7) -/

/-- A after the adjustment of the low nibble, not truncated. -/
def decimalLow (a : Byte) (f : Flags) : Nat := a.toNat + (if a.toNat % 16 > 9 ∨ f.ac = true then 6 else 0)

/-- A after both adjustments, not truncated. -/
def decimalSum (a : Byte) (f : Flags) : Nat :=
  decimalLow a f + (if decimalLow a f / 16 > 9 ∨ f.cy = true then 96 else 0)

/-- DAA leaves the sum truncated to a byte, shown by Z, S and P; CY is also set where the sum is above a byte. -/
theorem decimalAdjust_eq (a : Byte) (f : Flags) : decimalAdjust a f =
    (BitVec.ofNat 8 (decimalSum a f),
      { f.zsp (BitVec.ofNat 8 (decimalSum a f)) with cy := f.cy || decide (decimalSum a f > 0xFF) }) := by
  simp only [decimalAdjust, decimalSum, decimalLow, lowNibble_eq_mod, add_ite, Nat.add_zero]

theorem decimalAdjust_toNat (a : Byte) (f : Flags) : (decimalAdjust a f).1.toNat = decimalSum a f % 256 := by
  rw [decimalAdjust_eq, BitVec.toNat_ofNat]

theorem decimalAdjust_cy_iff (a : Byte) (f : Flags) :
    (decimalAdjust a f).2.cy = true ↔ f.cy = true ∨ decimalSum a f > 255 := by
  rw [decimalAdjust_eq, Bool.or_eq_true, decide_eq_true_iff]

theorem decimalAdjust_ac (a : Byte) (f : Flags) : (decimalAdjust a f).2.ac = f.ac := rfl

theorem decimalAdjust_show (a : Byte) (f : Flags) : (decimalAdjust a f).2.Show (decimalAdjust a f).1 := Flags.zsp_show f _

/-! ### The forms that write a result and flags, and the forms that write a pair -/

/-- An outcome that loads a register and the flags and steps PC over the instruction (R304 to R316, R318, R323). -/
theorem exists_next_of_setReg_flags {o : Result} {s : State} {r : Reg} {v : Byte} {f : Flags} {len : Word}
    (h : o = .next ({ s.setReg r v with flags := f }.advance len)) :
    ∃ t, o = .next t ∧ t.regs.get r = v ∧ t.flags = f ∧ s.SameRegsBut t [r] ∧ t.sp = s.sp ∧ t.pc = s.pc + len
      ∧ s.SameMem t ∧ s.SameSystem t :=
  ⟨_, h, Regs.get_set_same s.regs r v, rfl, s.sameRegsBut_setReg r v, rfl, rfl, State.sameMem_of_mem_eq rfl,
    State.sameSystem_of_eq rfl⟩

/-- An outcome that stores a byte, loads the flags and steps PC over the instruction (R317, R319). -/
theorem exists_next_of_write_flags {o : Result} {s : State} {a : Word} {v : Byte} {f : Flags} {len : Word}
    (h : o = .next ({ s.write a v with flags := f }.advance len)) :
    ∃ t, o = .next t ∧ t.read a = v ∧ t.flags = f ∧ s.SameMemBut t [a] ∧ t.regs = s.regs ∧ t.sp = s.sp
      ∧ t.pc = s.pc + len ∧ s.SameSystem t :=
  ⟨_, h, s.read_write_same a v, rfl, State.sameMemBut_of_storesAt (s.storesAt_write a v), rfl, rfl, rfl,
    State.sameSystem_of_eq rfl⟩

/-- An outcome that loads a pair and steps PC over the instruction (R320, R321). -/
theorem exists_next_of_setPair {o : Result} {s : State} {p : Pair} {v len : Word}
    (h : o = .next ((s.setPair p v).advance len)) :
    ∃ t, o = .next t ∧ t.pair p = v ∧ s.SameRegsBut t (pairRegs p) ∧ (p ≠ .sp → t.sp = s.sp) ∧ t.pc = s.pc + len
      ∧ t.flags = s.flags ∧ s.SameMem t ∧ s.SameSystem t := by
  refine ⟨_, h, ?value, s.sameRegsBut_setPair p v, s.setPair_sp_of_ne v, ?pc, s.setPair_flags p v,
    State.sameMem_of_mem_eq (s.setPair_mem p v), s.sameSystem_setPair p v⟩
  case value => rw [State.pair_advance, State.pair_setPair_same]
  case pc => rw [State.advance_pc, State.setPair_pc]

/-- Every ALU form leaves A and the flags as the operation computes them (R304 to R315, R402 to R413). -/
theorem aluOp_exists_next (op : AluOp) (v : Byte) (len : Word) (s : State) :
    ∃ t, aluOp op v len s = .next t ∧ t.regs.a = (aluApply op s.regs.a v s.flags.cy).1
      ∧ t.flags = (aluApply op s.regs.a v s.flags.cy).2 ∧ s.SameRegsBut t [.a] ∧ t.sp = s.sp ∧ t.pc = s.pc + len
      ∧ s.SameMem t ∧ s.SameSystem t :=
  exists_next_of_setReg_flags (r := .a) rfl

/-! ### Addition and subtraction -/

/-- An ALU form whose operation is an addition with carry-in `cin`. -/
theorem addsToA_of_aluOp {i : Instr} {s : State} {op : AluOp} {v : Byte} {cin : Bool} {len : Word}
    (h : exec i s = aluOp op v len s) (hop : aluApply op s.regs.a v s.flags.cy = add8 s.regs.a v cin) :
    AddsToA i s v cin len := by
  obtain ⟨t, ht, ha, hf, hframe⟩ := aluOp_exists_next op v len s
  refine ⟨t, h.trans ht, ?_⟩
  rw [ha, hf, hop]
  exact ⟨add8_toNat _ _ _, add8_cy_iff _ _ _, add8_ac_iff _ _ _, add8_show _ _ _, hframe⟩

/-- An ALU form whose operation is a subtraction with borrow-in `bin`. -/
theorem subtractsFromA_of_aluOp {i : Instr} {s : State} {op : AluOp} {v : Byte} {bin : Bool} {len : Word}
    (h : exec i s = aluOp op v len s) (hop : aluApply op s.regs.a v s.flags.cy = sub8 s.regs.a v bin) :
    SubtractsFromA i s v bin len := by
  obtain ⟨t, ht, ha, hf, hframe⟩ := aluOp_exists_next op v len s
  refine ⟨t, h.trans ht, ?_⟩
  rw [ha, hf, hop]
  exact ⟨sub8_add_back _ _ _, sub8_subtractionFlags _ _ _, hframe⟩

/-- Settles O34: ADD and ADI add with no carry-in, ADC and ACI with CY. -/
theorem additionToA : Obligations.AdditionToA := by
  unfold Obligations.AdditionToA
  intro s
  refine ⟨fun o => ?add, fun d => ?adi, fun o => ?adc, fun d => ?aci⟩
  case add => exact addsToA_of_aluOp (exec_alu .add o s) rfl
  case adi => exact addsToA_of_aluOp (exec_aluImm d .add s) rfl
  case adc => exact addsToA_of_aluOp (exec_alu .adc o s) rfl
  case aci => exact addsToA_of_aluOp (exec_aluImm d .adc s) rfl

/-- Settles O35: SUB and SUI subtract with no borrow-in, SBB and SBI with CY. -/
theorem subtractionFromA : Obligations.SubtractionFromA := by
  unfold Obligations.SubtractionFromA
  intro s
  refine ⟨fun o => ?sub, fun d => ?sui, fun o => ?sbb, fun d => ?sbi⟩
  case sub => exact subtractsFromA_of_aluOp (exec_alu .sub o s) rfl
  case sui => exact subtractsFromA_of_aluOp (exec_aluImm d .sub s) rfl
  case sbb => exact subtractsFromA_of_aluOp (exec_alu .sbb o s) rfl
  case sbi => exact subtractsFromA_of_aluOp (exec_aluImm d .sbb s) rfl

/-! ### Increment and decrement -/

/-- Settles O39: the register or the byte at H:L takes the result of Inc8, the flags are its flags. -/
theorem incrementOperand : Obligations.IncrementOperand := by
  unfold Obligations.IncrementOperand
  refine ⟨fun r s => ?register, fun s => ?memory⟩
  case' register => obtain ⟨t, ht, hv, hf, hframe⟩ := exists_next_of_setReg_flags (exec_inr (.reg r) s)
  case' memory => obtain ⟨t, ht, hv, hf, hframe⟩ := exists_next_of_write_flags (exec_inr .m s)
  all_goals
    refine ⟨t, ht, ?_⟩
    rw [hv, hf]
    exact ⟨inc8_toNat _ _, inc8_ac_iff _ _, inc8_show _ _, inc8_cy _ _, hframe⟩

/-- Settles O40: the register or the byte at H:L takes the result of Dec8, the flags are its flags. -/
theorem decrementOperand : Obligations.DecrementOperand := by
  unfold Obligations.DecrementOperand
  refine ⟨fun r s => ?register, fun s => ?memory⟩
  case' register => obtain ⟨t, ht, hv, hf, hframe⟩ := exists_next_of_setReg_flags (exec_dcr (.reg r) s)
  case' memory => obtain ⟨t, ht, hv, hf, hframe⟩ := exists_next_of_write_flags (exec_dcr .m s)
  all_goals
    refine ⟨t, ht, ?_⟩
    rw [hv, hf]
    exact ⟨dec8_add_one _ _, dec8_ac_iff _ _, dec8_show _ _, dec8_cy _ _, hframe⟩

/-! ### Pairs -/

/-- Settles O41: INX and DCX are a pair write; one more than DCX leaves is the pair of before. -/
theorem pairIncrementAndDecrement : Obligations.PairIncrementAndDecrement := by
  unfold Obligations.PairIncrementAndDecrement
  intro p s
  refine ⟨?inx, ?dcx⟩
  case inx =>
    obtain ⟨t, ht, hv, hframe⟩ := exists_next_of_setPair (exec_inx p s)
    exact ⟨t, ht, hv ▸ BitVec.toNat_add (s.pair p) 1, hframe⟩
  case dcx =>
    obtain ⟨t, ht, hv, hframe⟩ := exists_next_of_setPair (exec_dcx p s)
    have hback : t.pair p + 1 = s.pair p := by rw [hv, BitVec.sub_add_cancel]
    exact ⟨t, ht, (BitVec.toNat_add (t.pair p) 1).symm.trans (congrArg BitVec.toNat hback), hframe⟩

/-- Settles O42: DAD is a write of H:L with the sum and of CY with its carry. -/
theorem doubleAdd : Obligations.DoubleAdd := by
  unfold Obligations.DoubleAdd
  intro p s
  refine ⟨_, exec_dad p s, ?sum, add16_carry_iff _ _, rfl, rfl, rfl, rfl, s.sameRegsBut_setPair .hl _, rfl, rfl,
    State.sameMem_of_mem_eq rfl, State.sameSystem_of_eq rfl⟩
  case sum => exact (congrArg BitVec.toNat (s.pair_setPair_same .hl _)).trans (add16_toNat _ _)

/-! ### Decimal adjustment -/

/-- Settles O43: the two numbers are A after the first adjustment and after both. (`decimalAdjust` is the model's function.) -/
theorem daaDecimalAdjust : Obligations.DecimalAdjust := by
  unfold Obligations.DecimalAdjust
  intro s
  exact ⟨_, rfl, ⟨_, _, rfl, rfl, decimalAdjust_toNat _ _, decimalAdjust_cy_iff _ _⟩, decimalAdjust_ac _ _,
    decimalAdjust_show _ _, s.sameRegsBut_setReg .a _, rfl, rfl, State.sameMem_of_mem_eq rfl, State.sameSystem_of_eq rfl⟩

/-- A number below 100 as packed decimal: the tens in the high nibble, the units in the low one. -/
def packed (n : Nat) : Nat := n / 10 * 16 + n % 10

/-- A and the flags hold the binary sum of two packed decimal numbers, as R300 leaves it. -/
def HoldsPackedSum (a : Byte) (f : Flags) (x y : Nat) : Prop :=
  a.toNat = (packed x + packed y) % 256 ∧ (f.cy = true ↔ packed x + packed y > 255) ∧ (f.ac = true ↔ x % 10 + y % 10 > 15)

/-- After the first adjustment the low nibble is the units digit of the sum, and the ten it carries is in the tens. -/
theorem decimalLow_of_holdsPackedSum {a : Byte} {f : Flags} {x y : Nat} (hx : x < 100) (hy : y < 100)
    (h : HoldsPackedSum a f x y) :
    decimalLow a f + (if f.cy = true then 256 else 0) = (x + y) / 10 * 16 + (x + y) % 10 := by
  unfold HoldsPackedSum packed at h
  obtain ⟨ha, hcy, hac⟩ := h
  simp only [decimalLow, ha, hcy, hac]
  split_ifs <;> omega

/-- The units of a sum are those of the sum without its hundred. -/
theorem packed_mod_hundred (n : Nat) : packed (n % 100) = n % 100 / 10 * 16 + n % 10 := by
  have hunits : n % 100 % 10 = n % 10 := Nat.mod_mod_of_dvd n (by decide)
  rw [packed, hunits]

/-- After the second adjustment the tens digit is the decimal one too, and CY or the sum's ninth bit is the hundred. -/
theorem decimalSum_of_holdsPackedSum {a : Byte} {f : Flags} {x y : Nat} (hx : x < 100) (hy : y < 100)
    (h : HoldsPackedSum a f x y) :
    decimalSum a f % 256 = packed ((x + y) % 100) ∧ ((f.cy = true ∨ decimalSum a f > 255) ↔ x + y ≥ 100) := by
  have hlow := decimalLow_of_holdsPackedSum hx hy h
  have htens : (x + y) % 100 / 10 = (x + y) / 10 % 10 := Nat.mod_mul_right_div_self (x + y) 10 10
  have hhundred : x + y ≥ 100 ↔ (x + y) / 10 ≥ 10 := by omega
  have htop : (x + y) / 10 < 20 := by omega
  have hunit : (x + y) % 10 < 10 := Nat.mod_lt _ (by decide)
  rw [packed_mod_hundred, htens, hhundred]
  unfold decimalSum
  generalize (x + y) / 10 = tens at *
  generalize (x + y) % 10 = units at *
  cases hcy : f.cy
  · simp only [hcy, Bool.false_eq_true, if_false, false_or, or_false, Nat.add_zero] at hlow ⊢
    split_ifs <;> omega
  · simp only [hcy, if_true, true_or, or_true, true_iff] at hlow ⊢
    omega

theorem packed_lt {n : Nat} (hn : n < 100) : packed n < 256 := by
  unfold packed
  omega

theorem toNat_ofNat_packed {n : Nat} (hn : n < 100) : (BitVec.ofNat 8 (packed n)).toNat = packed n :=
  (BitVec.toNat_ofNat _ 8).trans (Nat.mod_eq_of_lt (packed_lt hn))

/-- ADI of a packed decimal number to another leaves their packed sum. -/
theorem adi_holdsPackedSum {s : State} {x y : Nat} (hx : x < 100) (hy : y < 100)
    (ha : s.regs.a = BitVec.ofNat 8 (packed x)) :
    ∃ t, exec (.adi (BitVec.ofNat 8 (packed y))) s = .next t ∧ HoldsPackedSum t.regs.a t.flags x y := by
  obtain ⟨-, hadi, -, -⟩ := additionToA s
  obtain ⟨t, ht, hsum, hcy, hac, -⟩ := hadi (BitVec.ofNat 8 (packed y))
  have hunits : ∀ n, packed n % 16 = n % 10 := fun n => by unfold packed; omega
  rw [ha, toNat_ofNat_packed hx, toNat_ofNat_packed hy, Bool.toNat_false, Nat.add_zero] at hsum hcy hac
  rw [hunits, hunits] at hac
  exact ⟨t, ht, hsum, hcy, hac⟩

/-- Settles O44: ADI leaves the binary sum of the packed numbers, and DAA adjusts it digit by digit. -/
theorem decimalAdditionIsDecimal : Obligations.DecimalAdditionIsDecimal := by
  unfold Obligations.DecimalAdditionIsDecimal
  intro s x y hx hy ha
  obtain ⟨t, ht, hholds⟩ := adi_holdsPackedSum hx hy ha
  obtain ⟨hdigits, hcarry⟩ := decimalSum_of_holdsPackedSum hx hy hholds
  refine ⟨t, _, ht, rfl, BitVec.eq_of_toNat_eq ?sum, (decimalAdjust_cy_iff _ _).trans hcarry⟩
  case sum =>
    rw [← packed_mod_hundred, toNat_ofNat_packed (Nat.mod_lt _ (by decide)), ← hdigits]
    exact decimalAdjust_toNat _ _

end Sys2Proof.Machine
end

section
/-! SUPPORT. AND, OR, XOR, compare, CMA, CMC and STC (43_logic.md), and the obligations that state them. -/

namespace Sys2Proof.Machine

/-! ### AND, OR and XOR -/

/-- The flags of a logical operation with result `r` (R400, R401): CY cleared, AC as the operation says. -/
def logicFlags (r : Byte) (ac : Bool) : Flags := { z := r == 0, s := r.getLsbD 7, p := parity r, cy := false, ac := ac }

theorem logicFlags_show (r : Byte) (ac : Bool) : (logicFlags r ac).Show r := Flags.zsp_show (logicFlags r ac) r

theorem and8_eq (a v : Byte) : and8 a v = (a &&& v, logicFlags (a &&& v) ((a &&& v).getLsbD 4)) := rfl

theorem or8_eq (a v : Byte) : or8 a v = (a ||| v, logicFlags (a ||| v) false) := rfl

theorem xor8_eq (a v : Byte) : xor8 a v = (a ^^^ v, logicFlags (a ^^^ v) false) := rfl

/-- An ALU form whose operation is a logical one with result `r`. -/
theorem logicToA_of_aluOp {i : Instr} {s : State} {op : AluOp} {v r : Byte} {ac : Bool} {len : Word}
    (h : exec i s = aluOp op v len s) (hop : aluApply op s.regs.a v s.flags.cy = (r, logicFlags r ac)) :
    LogicToA i s r ac len := by
  obtain ⟨t, ht, ha, hf, hframe⟩ := aluOp_exists_next op v len s
  rw [hop] at ha hf
  refine ⟨t, h.trans ht, ha, ?_⟩
  rw [hf]
  exact ⟨rfl, rfl, logicFlags_show r ac, hframe⟩

/-- Settles O36: ANA and ANI are And8 of A with the operand. -/
theorem andToA : Obligations.AndToA := by
  unfold Obligations.AndToA
  intro s
  refine ⟨fun o => ?ana, fun d => ?ani⟩
  case ana => exact logicToA_of_aluOp (exec_alu .ana o s) (and8_eq _ _)
  case ani => exact logicToA_of_aluOp (exec_aluImm d .ana s) (and8_eq _ _)

/-- Settles O37: ORA and ORI are Or8 of A with the operand, XRA and XRI are Xor8. -/
theorem orAndXorToA : Obligations.OrAndXorToA := by
  unfold Obligations.OrAndXorToA
  intro s
  refine ⟨fun o => ?ora, fun d => ?ori, fun o => ?xra, fun d => ?xri⟩
  case ora => exact logicToA_of_aluOp (exec_alu .ora o s) (or8_eq _ _)
  case ori => exact logicToA_of_aluOp (exec_aluImm d .ora s) (or8_eq _ _)
  case xra => exact logicToA_of_aluOp (exec_alu .xra o s) (xor8_eq _ _)
  case xri => exact logicToA_of_aluOp (exec_aluImm d .xra s) (xor8_eq _ _)

/-! ### Compare -/

/-- An ALU form that compares writes A back to itself, so the whole register file is as before (R411). -/
theorem comparesA_of_aluOp {i : Instr} {s : State} {v : Byte} {len : Word} (h : exec i s = aluOp .cmp v len s) :
    ComparesA i s v len :=
  ⟨_, h, Regs.set_get_self s.regs .a, sub8_subtractionFlags s.regs.a v false, rfl, rfl, State.sameMem_of_mem_eq rfl,
    State.sameSystem_of_eq rfl⟩

/-- Settles O38: CMP and CPI keep A, and their flags are those of Sub8 with no borrow-in. -/
theorem compareWithA : Obligations.CompareWithA := by
  unfold Obligations.CompareWithA
  intro s
  refine ⟨fun o => ?cmp, fun d => ?cpi⟩
  case cmp => exact comparesA_of_aluOp (exec_alu .cmp o s)
  case cpi => exact comparesA_of_aluOp (exec_aluImm d .cmp s)

/-! ### CMA, CMC and STC -/

/-- An outcome that writes CY and steps PC over the instruction (R415, R416). -/
theorem exists_next_of_setCarryOp {o : Result} {s : State} {cy : Bool} (h : o = setCarryOp cy s) :
    ∃ t, o = .next t ∧ t.flags = { s.flags with cy := cy } ∧ t.regs = s.regs ∧ t.sp = s.sp ∧ t.pc = s.pc + 1
      ∧ s.SameMem t ∧ s.SameSystem t :=
  ⟨_, h, rfl, rfl, rfl, rfl, State.sameMem_of_mem_eq rfl, State.sameSystem_of_eq rfl⟩

/-- Settles O45: CMA is a write of A with its complement, CMC and STC are a write of CY. -/
theorem complementAndCarry : Obligations.ComplementAndCarry := by
  unfold Obligations.ComplementAndCarry
  intro s
  refine ⟨?cma, ?cmc, ?stc⟩
  case cma =>
    have hcma : exec .cma s = .next ((s.setReg .a (~~~s.regs.a)).advance 1) := rfl
    obtain ⟨t, ht, ha, hregs, hsp, hpc, hflags, hframe⟩ := exists_next_of_setReg hcma
    have hcomplement : t.regs.a.toNat = 255 - s.regs.a.toNat := (congrArg BitVec.toNat ha).trans BitVec.toNat_not
    exact ⟨t, ht, hcomplement, hregs, hflags, hsp, hpc, hframe⟩
  case cmc => exact exists_next_of_setCarryOp (cy := !s.flags.cy) rfl
  case stc => exact exists_next_of_setCarryOp (cy := true) rfl

end Sys2Proof.Machine
end

section
/-! SUPPORT. The rotates (44_rotate.md) as arithmetic on A and CY, and the obligation that states them. -/

namespace Sys2Proof.Machine

/-! ### One bit of a byte as a number -/

theorem toNat_getLsbD (a : Byte) (k : Nat) : (a.getLsbD k).toNat = a.toNat / 2 ^ k % 2 := by
  rw [← BitVec.testBit_toNat, Nat.toNat_testBit]

theorem toNat_getLsbD_seven (a : Byte) : (a.getLsbD 7).toNat = a.toNat / 128 := by
  have hbit : (a.getLsbD 7).toNat = a.toNat / 128 % 2 := toNat_getLsbD a 7
  have hlt : a.toNat < 256 := a.isLt
  omega

theorem toNat_getLsbD_zero (a : Byte) : (a.getLsbD 0).toNat = a.toNat % 2 :=
  (toNat_getLsbD a 0).trans (by rw [Nat.pow_zero, Nat.div_one])

theorem getLsbD_zero_iff (a : Byte) : a.getLsbD 0 = true ↔ a.toNat % 2 = 1 := by
  rw [← toNat_getLsbD_zero, Bool.toNat_eq_one]

theorem toNat_bitByte (b : Bool) : ((BitVec.ofBool b).setWidth 8).toNat = b.toNat := by cases b <;> rfl

theorem toNat_bitByte_shiftLeft_seven (b : Bool) : ((BitVec.ofBool b).setWidth 8 <<< 7).toNat = 2 ^ 7 * b.toNat := by
  cases b <;> rfl

/-! ### A byte shifted by one, with a bit put in the place left free -/

/-- Shifted left, A is a multiple of 2, so the bit put in at the low end adds to it. -/
theorem toNat_shiftLeft_one_or_bit (a : Byte) (b : Bool) :
    ((a <<< 1) ||| (BitVec.ofBool b).setWidth 8).toNat = a.toNat * 2 % 256 + b.toNat := by
  have hshift : (a <<< 1).toNat = 2 ^ 1 * (a.toNat % 128) := by
    rw [BitVec.toNat_shiftLeft, Nat.shiftLeft_eq]
    omega
  rw [BitVec.toNat_or, toNat_bitByte, hshift, ← Nat.two_pow_add_eq_or_of_lt b.toNat_lt]
  omega

/-- Shifted right, A is below 128, so the bit put in at the high end adds to it. -/
theorem toNat_shiftRight_one_or_bit (a : Byte) (b : Bool) :
    ((a >>> 1) ||| ((BitVec.ofBool b).setWidth 8 <<< 7)).toNat = a.toNat / 2 + b.toNat * 128 := by
  have hlow : a.toNat / 2 < 2 ^ 7 := by
    have hlt : a.toNat < 256 := a.isLt
    omega
  rw [BitVec.toNat_or, BitVec.toNat_ushiftRight, Nat.shiftRight_one, toNat_bitByte_shiftLeft_seven, Nat.or_comm,
    ← Nat.two_pow_add_eq_or_of_lt hlow]
  omega

/-! ### The rotates -/

theorem rotateLeft_toNat (a : Byte) (cy : Bool) : (rotateLeft a cy).1.toNat = a.toNat * 2 % 256 + a.toNat / 128 :=
  toNat_getLsbD_seven a ▸ toNat_shiftLeft_one_or_bit a (a.getLsbD 7)

theorem rotateRight_toNat (a : Byte) (cy : Bool) : (rotateRight a cy).1.toNat = a.toNat / 2 + a.toNat % 2 * 128 :=
  toNat_getLsbD_zero a ▸ toNat_shiftRight_one_or_bit a (a.getLsbD 0)

theorem rotateLeftCarry_toNat (a : Byte) (cy : Bool) : (rotateLeftCarry a cy).1.toNat = a.toNat * 2 % 256 + cy.toNat :=
  toNat_shiftLeft_one_or_bit a cy

theorem rotateRightCarry_toNat (a : Byte) (cy : Bool) : (rotateRightCarry a cy).1.toNat = a.toNat / 2 + cy.toNat * 128 :=
  toNat_shiftRight_one_or_bit a cy

/-- A rotate leaves A and CY as its operation computes them, and every other flag and field as before. -/
theorem rotatesA_of_rotateOp {i : Instr} {s : State} {r : Byte × Bool} {a : Nat} {cy : Prop}
    (h : exec i s = rotateOp r s) (ha : r.1.toNat = a) (hcy : r.2 = true ↔ cy) : RotatesA i s a cy := by
  obtain ⟨t, ht, hv, hf, hframe⟩ := exists_next_of_setReg_flags (r := .a) h
  refine ⟨t, ht, (congrArg BitVec.toNat hv).trans ha, ?_⟩
  rw [hf]
  exact ⟨hcy, rfl, rfl, rfl, rfl, hframe⟩

/-- Settles O46: each rotate is a shift of A by one; the bit shifted out is the new CY, the one put in is that bit (RLC, RRC) or the
CY of before (RAL, RAR). -/
theorem rotates : Obligations.Rotates := by
  unfold Obligations.Rotates
  intro s
  refine ⟨?rlc, ?rrc, ?ral, ?rar⟩
  case rlc => exact rotatesA_of_rotateOp rfl (rotateLeft_toNat _ _) (getLsbD_seven_iff _)
  case rrc => exact rotatesA_of_rotateOp rfl (rotateRight_toNat _ _) (getLsbD_zero_iff _)
  case ral => exact rotatesA_of_rotateOp rfl (rotateLeftCarry_toNat _ _) (getLsbD_seven_iff _)
  case rar => exact rotatesA_of_rotateOp rfl (rotateRightCarry_toNat _ _) (getLsbD_zero_iff _)

end Sys2Proof.Machine
end

section
/-! SUPPORT. Control transfer (45_control_flow.md), and the obligations that state it. A transfer takes one of four outcomes: PC moved
on, a jump, a return, a call. Each outcome has one lemma on what it leaves, and each conditional form one lemma for each value of its
condition. -/

namespace Sys2Proof.Machine

/-! ### The outcome a condition picks (R602, R604, R606) -/

theorem jumpIfOp_of_holds {s : State} {cond : Cond} (a : Word) (h : s.flags.holds cond = true) :
    jumpIfOp cond a s = .next (s.jump a) := if_pos h

theorem jumpIfOp_of_not_holds {s : State} {cond : Cond} (a : Word) (h : s.flags.holds cond = false) :
    jumpIfOp cond a s = .next (s.advance 3) := if_neg (ne_true_of_eq_false h)

theorem callIfOp_of_holds {s : State} {cond : Cond} (a : Word) (h : s.flags.holds cond = true) :
    callIfOp cond a s = callOp a 3 s := if_pos h

theorem callIfOp_of_not_holds {s : State} {cond : Cond} (a : Word) (h : s.flags.holds cond = false) :
    callIfOp cond a s = .next (s.advance 3) := if_neg (ne_true_of_eq_false h)

theorem returnIfOp_of_holds {s : State} {cond : Cond} (h : s.flags.holds cond = true) :
    returnIfOp cond s = returnOp s := if_pos h

theorem returnIfOp_of_not_holds {s : State} {cond : Cond} (h : s.flags.holds cond = false) :
    returnIfOp cond s = .next (s.advance 1) := if_neg (ne_true_of_eq_false h)

/-! ### What each outcome leaves -/

theorem goesTo_of_jump {i : Instr} {s : State} {a : Word} (h : exec i s = .next (s.jump a)) : GoesTo i s a s.sp :=
  ⟨_, h, rfl, rfl, rfl, rfl, State.sameMem_of_mem_eq rfl, State.sameSystem_of_eq rfl⟩

theorem goesTo_of_advance {i : Instr} {s : State} {len : Word} (h : exec i s = .next (s.advance len)) :
    GoesTo i s (s.pc + len) s.sp :=
  ⟨_, h, rfl, rfl, rfl, rfl, State.sameMem_of_mem_eq rfl, State.sameSystem_of_eq rfl⟩

theorem goesTo_of_returnOp {i : Instr} {s : State} (h : exec i s = returnOp s) : GoesTo i s s.top (s.sp + 2) :=
  ⟨_, h, rfl, rfl, rfl, rfl, State.sameMem_of_mem_eq rfl, State.sameSystem_of_eq rfl⟩

theorem callsTo_of_callOp {i : Instr} {s : State} {target len : Word} (h : exec i s = callOp target len s) :
    CallsTo i s target (s.pc + len) :=
  ⟨_, h, rfl, rfl, s.read_push_high _, s.read_push_low _, s.sameMemBut_push _, rfl, rfl, State.sameSystem_of_eq rfl⟩

/-- A return after a call: the word on top is the return address, and SP is up again by the 2 it went down. -/
theorem exists_ret_of_callOp {i : Instr} {s : State} {target len : Word} (h : exec i s = callOp target len s) :
    ∃ t u, exec i s = .next t ∧ exec .ret t = .next u ∧ u.pc = s.pc + len ∧ u.sp = s.sp ∧ u.regs = s.regs
      ∧ u.flags = s.flags := by
  have htop : ((s.push (s.pc + len)).jump target).top = s.pc + len := (State.top_congr rfl rfl).trans (s.top_push _)
  exact ⟨_, _, h, rfl, htop, BitVec.sub_add_cancel s.sp 2, rfl, rfl⟩

/-! ### The obligations -/

/-- Settles O51: CALL and RST are one call, so the return after either is the same. -/
theorem callThenReturn : Obligations.CallThenReturn := by
  unfold Obligations.CallThenReturn
  refine fun s => ⟨fun a => ?call, fun n => ?rst⟩
  case call => exact exists_ret_of_callOp (target := a) rfl
  case rst => exact exists_ret_of_callOp (exec_rst n s)

/-- Settles O47: one case for each condition. -/
theorem conditionsReadOneFlag : Obligations.ConditionsReadOneFlag := by
  unfold Obligations.ConditionsReadOneFlag
  intro f cond
  cases cond <;> simp [Flags.holds]

/-- Settles O48: JMP, PCHL and a taken Jcc are a jump; a Jcc not taken moves PC over its three bytes. -/
theorem jumps : Obligations.Jumps := by
  unfold Obligations.Jumps
  refine fun s => ⟨fun a => ?jmp, ?pchl, fun a cond => ⟨fun hc => ?taken, fun hc => ?notTaken⟩⟩
  case jmp => exact goesTo_of_jump rfl
  case pchl => exact goesTo_of_jump rfl
  case taken => exact goesTo_of_jump ((exec_jcc a cond s).trans (jumpIfOp_of_holds a hc))
  case notTaken => exact goesTo_of_advance ((exec_jcc a cond s).trans (jumpIfOp_of_not_holds a hc))

/-- Settles O49: CALL, RST and a taken Ccc are a call; a Ccc not taken moves PC over its three bytes. -/
theorem calls : Obligations.Calls := by
  unfold Obligations.Calls
  refine fun s => ⟨fun a => ?call, fun a cond => ⟨fun hc => ?taken, fun hc => ?notTaken⟩, fun n => ?rst⟩
  case call => exact callsTo_of_callOp rfl
  case taken => exact callsTo_of_callOp ((exec_ccc a cond s).trans (callIfOp_of_holds a hc))
  case notTaken => exact goesTo_of_advance ((exec_ccc a cond s).trans (callIfOp_of_not_holds a hc))
  case rst => exact callsTo_of_callOp (exec_rst n s)

/-- Settles O50: RET and a taken Rcc are a return; an Rcc not taken moves PC over its one byte. -/
theorem returns : Obligations.Returns := by
  unfold Obligations.Returns
  refine fun s => ⟨?ret, fun cond => ⟨fun hc => ?taken, fun hc => ?notTaken⟩⟩
  case ret => exact goesTo_of_returnOp rfl
  case taken => exact goesTo_of_returnOp ((exec_rcc cond s).trans (returnIfOp_of_holds hc))
  case notTaken => exact goesTo_of_advance ((exec_rcc cond s).trans (returnIfOp_of_not_holds hc))

end Sys2Proof.Machine
end

section
/-! SUPPORT. The port devices and machine control (46_io_and_machine_control.md, 60_exceptions.md R811 to R815), and the obligations
that state them. -/

namespace Sys2Proof.Machine

/-! ### What each port reads (R811) -/

theorem PortState.read_zero (d : PortState) : d.read 0 = Config.port0Value := rfl

theorem PortState.read_one (d : PortState) : d.read 1 = d.inPort1 := rfl

theorem PortState.read_three (d : PortState) : d.read 3 = d.shiftResult := rfl

theorem PortState.read_other (d : PortState) {p : Byte} (h0 : p ≠ 0) (h1 : p ≠ 1) (h3 : p ≠ 3) : d.read p = 0 := by
  rw [PortState.read, if_neg h0, if_neg h1, if_neg h3]

/-! ### What each port write does (R812) -/

theorem PortState.write_two (d : PortState) (v : Byte) : d.write 2 v = { d with shiftOffset := v.extractLsb' 0 3 } := rfl

theorem PortState.write_four (d : PortState) (v : Byte) : d.write 4 v = { d with shift0 := d.shift1, shift1 := v } := rfl

theorem PortState.write_other (d : PortState) {p : Byte} (v : Byte) (h2 : p ≠ 2) (h4 : p ≠ 4) : d.write p v = d := by
  rw [PortState.write, if_neg h2, if_neg h4]

theorem PortState.write_keeps_inPort1 (d : PortState) (p v : Byte) : (d.write p v).inPort1 = d.inPort1 := by
  rcases d.write_cases p v with ⟨-, h⟩ | ⟨-, h⟩ | h <;> rw [h]

/-- The shift result is the byte that stands `8 - shiftOffset` bits up in the 16-bit register (R813, D14). -/
theorem PortState.shiftResult_toNat (d : PortState) :
    d.shiftResult.toNat = (d.shift1.toNat * 256 + d.shift0.toNat) / 2 ^ (8 - d.shiftOffset.toNat) % 256 := by
  rw [PortState.shiftResult, BitVec.toNat_setWidth, BitVec.toNat_ushiftRight, cat16_toNat, Nat.shiftRight_eq_div_pow]

/-! ### The system state (R702 to R705, 60_exceptions.md R806) -/

theorem State.SameSystem.ports_eq {s t : State} (h : s.SameSystem t) : t.ports = s.ports := by
  obtain ⟨-, -, -, hports, -⟩ := h
  exact hports

theorem exec_ei (s : State) : exec .ei s = .next { s with ie := true, pc := s.pc + 1 } := rfl

theorem exec_di (s : State) : exec .di s = .next { s with ie := false, pc := s.pc + 1 } := rfl

theorem exec_nop (s : State) : exec .nop s = .next { s with pc := s.pc + 1 } := rfl

theorem exec_hlt (s : State) : exec .hlt s = .next { s with halted := true, pc := s.pc + 1 } := rfl

/-- A delivered interrupt enters at its vector, with the address it interrupted on the stack. -/
theorem exists_entry_of_raise {s : State} (hf : s.fault = none) (hi : s.ie = true) {v : Nat} (hv : v ≤ 7) :
    ∃ u, raise v s = .next u ∧ u.pc = BitVec.ofNat 16 (8 * v) ∧ u.top = s.pc := by
  obtain ⟨hpc, -, htop, -⟩ := interruptEntry_spec s v
  exact ⟨_, raise_delivered hf hi hv, hpc, htop⟩

/-! ### The obligations -/

/-- Settles O53: OUT changes PC and the ports alone, and the ports as the write of A to port `p` does. -/
theorem portWrites : Obligations.PortWrites := by
  unfold Obligations.PortWrites
  refine ⟨fun p s => ⟨_, exec_out p s, ?offset, ?shift, s.ports.write_other s.regs.a, s.ports.write_keeps_inPort1 p s.regs.a,
    rfl, rfl, rfl, rfl, State.sameMem_of_mem_eq rfl, rfl, rfl, rfl, rfl⟩, PortState.shiftResult_toNat⟩
  case offset =>
    rintro rfl
    rw [State.advance_ports, PortState.write_two]
    exact ⟨BitVec.extractLsb'_toNat 0 3 s.regs.a, rfl, rfl⟩
  case shift =>
    rintro rfl
    rw [State.advance_ports, PortState.write_four]
    exact ⟨rfl, rfl, rfl⟩

/-- Settles O52: IN is a write of A with the byte the port reads. -/
theorem portReads : Obligations.PortReads := by
  unfold Obligations.PortReads
  intro p s
  obtain ⟨t, ht, ha, hregs, hsp, hpc, hflags, hmem, hsystem⟩ := exists_next_of_setReg (r := .a) (exec_inp p s)
  refine ⟨t, ht, ?zero, ?one, ?three, ?other, hsystem.ports_eq, hregs, hsp, hpc, hflags, hmem, hsystem⟩
  case zero => rintro rfl; exact ha.trans s.ports.read_zero
  case one => rintro rfl; exact ha.trans s.ports.read_one
  case three => rintro rfl; exact ha.trans s.ports.read_three
  case other => exact fun h0 h1 h3 => ha.trans (s.ports.read_other h0 h1 h3)

/-- Settles O54: the four are one field write each, and the state EI leaves has IE true, so a `raise` on it enters at its vector with
the address after the EI on the stack. -/
theorem machineControl : Obligations.MachineControl := by
  unfold Obligations.MachineControl
  refine fun s => ⟨exec_ei s, exec_di s, exec_nop s, exec_hlt s, fun hf v hv => ?raiseAfterEi⟩
  case raiseAfterEi =>
    obtain ⟨u, hu, hpc, htop⟩ := exists_entry_of_raise (s := { s with ie := true, pc := s.pc + 1 }) hf rfl hv
    exact ⟨_, u, exec_ei s, hu, hpc, htop⟩

end Sys2Proof.Machine
end

section
/-! SUPPORT. Exceptions (60_exceptions.md): the illegal opcode and the stop after it (R801, R802), the interrupt call (R803 to R809),
and the obligations that state them. -/

namespace Sys2Proof.Machine

/-! ### The illegal opcode (R801, R802) -/

theorem fetch_of_mem_illegalOpcodes {s : State} (h : s.read s.pc ∈ illegalOpcodes) : s.fetch = .illegal (s.read s.pc) :=
  decodeBytes_of_mem_illegalOpcodes h _ _

theorem fetch_ne_illegal {s : State} (h : s.read s.pc ∉ illegalOpcodes) (op : Byte) : s.fetch ≠ .illegal op := by
  intro hfetch
  obtain ⟨-, hmem⟩ := (illegalOpcodesAreTheTwelve _ _ _ _).1 hfetch
  exact h hmem

theorem step_of_illegal_opcode {s : State} (hf : s.fault = none) (hh : s.halted = false) (h : s.read s.pc ∈ illegalOpcodes) :
    step s = .fault (.unimplementedInstruction (s.read s.pc) s.pc) := by
  rw [step_running hf hh, fetch_of_mem_illegalOpcodes h, exec_illegal]

theorem step_faulted {s : State} {r : FaultRecord} (h : s.fault = some r) : step s = .fault (.stopped r.opcode r.pc) := by
  simp [step, h]

theorem raise_faulted {s : State} {r : FaultRecord} (h : s.fault = some r) {v : Nat} (hv : v ≤ 7) : raise v s = .next s := by
  simp [raise, h, Nat.not_lt.2 hv]

/-! ### The interrupt call (R804, R806, R807) -/

theorem raise_out_of_range {v : Nat} (hv : v > 7) (s : State) : raise v s = .refused (.vectorOutOfRange v) := if_pos hv

/-- With IE true and no fault, a `raise` that completes is an interrupt entry: its vector was in range. -/
theorem eq_interruptEntry_of_raise {s t : State} {v : Nat} (hf : s.fault = none) (hi : s.ie = true) (h : raise v s = .next t) :
    t = s.interruptEntry v := by
  by_cases hv : v ≤ 7
  · cases (raise_delivered hf hi hv).symm.trans h
    rfl
  · cases (raise_out_of_range (Nat.lt_of_not_le hv) s).symm.trans h

theorem State.sameMemBut_interruptEntry (s : State) (v : Nat) : s.SameMemBut (s.interruptEntry v) [s.sp - 1, s.sp - 2] :=
  s.sameMemBut_push s.pc

/-! ### The obligations -/

/-- Settles O8: an illegal opcode is fetched as ILLEGAL, whose meaning is the fault; a block with FAULT recorded has neither a step
nor an interrupt. -/
theorem illegalOpcodeStopsTheBlock : Obligations.IllegalOpcodeStopsTheBlock := by
  unfold Obligations.IllegalOpcodeStopsTheBlock
  refine ⟨fun s hf hh hop => ⟨step_of_illegal_opcode hf hh hop, rfl⟩, fun s r hr => ⟨step_faulted hr, fun v hv => ?raise⟩⟩
  case raise => exact raise_faulted hr hv

/-- Settles O55: IE decides alone between no change and the entry at the vector. -/
theorem interruptEnableIsTheOnlyMask : Obligations.InterruptEnableIsTheOnlyMask := by
  unfold Obligations.InterruptEnableIsTheOnlyMask
  refine fun s v hv => ⟨fun hi => raise_masked hi hv, fun hi hf => ?delivered⟩
  case delivered => exact ⟨_, raise_delivered hf hi hv, s.interruptEntry_pc v, s.interruptEntry_ie v⟩

/-- Settles O56: the entry pushes PC, which stores at SP - 1 and SP - 2 alone, and sets PC, IE and HALTED. -/
theorem interruptEntry : Obligations.InterruptEntry := by
  unfold Obligations.InterruptEntry
  refine ⟨fun s v hv hf hi => ?entry, fun s v hv => raise_out_of_range hv s⟩
  case entry =>
    exact ⟨_, raise_delivered hf hi hv, s.interruptEntry_pc v, s.interruptEntry_sp v, s.read_push_high s.pc, s.read_push_low s.pc,
      s.interruptEntry_ie v, s.interruptEntry_halted v, s.sameMemBut_interruptEntry v, s.interruptEntry_regs v,
      s.interruptEntry_flags v, s.interruptEntry_fault v, s.interruptEntry_ports v, s.interruptEntry_driver v⟩

/-- Settles O57: the entry clears IE, which masks the second `raise`; the word it pushed is on top, and the RET takes it off. -/
theorem interruptThenReturn : Obligations.InterruptThenReturn := by
  unfold Obligations.InterruptThenReturn
  intro s t v hf hi h
  obtain rfl := eq_interruptEntry_of_raise hf hi h
  obtain ⟨-, -, htop, -⟩ := interruptEntry_spec s v
  refine ⟨fun w hw => raise_masked (s.interruptEntry_ie v) hw, (s.interruptEntry v).returnFromStack, rfl, htop, ?sp, rfl, rfl, rfl⟩
  case sp => exact BitVec.sub_add_cancel s.sp 2

end Sys2Proof.Machine
end

section
/-! SUPPORT. A call of `run_frame` (60_exceptions.md R818) as a run of the block: the steps up to the budget, what they keep, the loop
along them, and the obligation that states how the call ends. -/

namespace Sys2Proof.Machine

/-! ### What a run of the block keeps -/

theorem step_keeps_fault_driver {s t : State} (h : step s = .next t) : t.fault = s.fault ∧ t.driver = s.driver := by
  rcases step_cases s with ⟨r, -, hs⟩ | ⟨-, -, hs⟩ | ⟨-, -, hs⟩
  · cases hs.symm.trans h
  · cases hs.symm.trans h
    exact ⟨rfl, rfl⟩
  · obtain ⟨-, -, -, -, -, hfault, hdriver⟩ := systemStateWriters _ s t (hs.symm.trans h)
    exact ⟨hfault, hdriver⟩

/-- A run of one more step begins with a step that completes. -/
theorem exists_step_of_run_succ (M : Host.Core) {n : Nat} {s u : M.State} (h : M.run (n + 1) s = .next u) :
    ∃ t, M.step s = .next t ∧ M.run n t = .next u := by
  unfold Host.Core.run at h
  split at h
  next t hst => exact ⟨t, hst, h⟩
  next => cases h
  next => cases h

theorem run_keeps_fault_driver {n : Nat} {s u : State} (h : core.run n s = .next u) : u.fault = s.fault ∧ u.driver = s.driver := by
  induction n generalizing s with
  | zero =>
    cases h
    exact ⟨rfl, rfl⟩
  | succ n ih =>
    obtain ⟨t, hst, htu⟩ := exists_step_of_run_succ core h
    obtain ⟨hfault, hdriver⟩ := step_keeps_fault_driver hst
    obtain ⟨hfault', hdriver'⟩ := ih htu
    exact ⟨hfault'.trans hfault, hdriver'.trans hdriver⟩

/-! ### The run up to the budget (R818, R908) -/

/-- The next step of the block fetches an illegal opcode. -/
def State.AtIllegal (s : State) : Prop := s.halted = false ∧ s.read s.pc ∈ illegalOpcodes

/-- The counts that R908 makes positive: those of the defined opcodes and of the idle step. -/
def PositiveCounts (P : Config.Params) : Prop := (∀ op, op ∉ illegalOpcodes → 0 < P.cycles op) ∧ 0 < P.haltIdleCycles

/-- A block that has not faulted and fetches no illegal opcode completes its step, with a positive count. -/
theorem exists_step_of_not_atIllegal {P : Config.Params} (hP : PositiveCounts P) {s : State} (hf : s.fault = none)
    (h : ¬ s.AtIllegal) : ∃ t, step s = .next t ∧ 0 < stepCycles P s := by
  obtain ⟨hcycles, hidle⟩ := hP
  cases hh : s.halted with
  | true => exact ⟨s, step_halted hf hh, by rwa [stepCycles_halted P hh]⟩
  | false =>
    have hop : s.read s.pc ∉ illegalOpcodes := fun hop => h ⟨hh, hop⟩
    obtain ⟨t, ht, -⟩ := exec_completesStoring (fetch_ne_illegal hop) s
    exact ⟨t, (step_running hf hh).trans ht, by rw [stepCycles_running P hh]; exact hcycles _ hop⟩

/-- `n` steps lead from `s` to `u`, and each begins with the added counts, from `c` on, below FRAME_BUDGET. -/
structure RunsBelowBudget (P : Config.Params) (c n : Nat) (s u : State) : Prop where
  run : core.run n s = .next u
  below : ∀ k < n, c + cycleSum P k s < P.frameBudget

theorem RunsBelowBudget.refl (P : Config.Params) (c : Nat) (s : State) : RunsBelowBudget P c 0 s s :=
  ⟨rfl, fun k hk => absurd hk k.not_lt_zero⟩

theorem runsBelowBudget_succ_iff {P : Config.Params} {c n : Nat} {s t u : State} (hst : step s = .next t) :
    RunsBelowBudget P c (n + 1) s u ↔ c < P.frameBudget ∧ RunsBelowBudget P (c + stepCycles P s) n t u := by
  have hrun : core.run (n + 1) s = core.run n t := run_succ_of_step core n hst
  have hsum (k : Nat) : c + cycleSum P (k + 1) s = c + stepCycles P s + cycleSum P k t := by
    rw [cycleSum_succ k hst, Nat.add_assoc]
  constructor
  · intro h
    exact ⟨h.below 0 n.succ_pos, hrun ▸ h.run, fun k hk => hsum k ▸ h.below (k + 1) (Nat.succ_lt_succ hk)⟩
  · rintro ⟨hc, h⟩
    refine ⟨hrun.trans h.run, fun k hk => ?_⟩
    cases k with
    | zero => exact hc
    | succ k => exact hsum k ▸ h.below k (Nat.lt_of_succ_lt_succ hk)

/-- Positive counts bound the number of steps: with `m` of them enough for the rest of the budget, a run of at most `m` steps
reaches the budget, or one of fewer stands below it at an illegal opcode. -/
theorem exists_runsBelowBudget {P : Config.Params} (hP : PositiveCounts P) {m c : Nat} {s : State} (hf : s.fault = none)
    (hm : P.frameBudget ≤ c + m) :
    ∃ n u, RunsBelowBudget P c n s u ∧ ((n ≤ m ∧ P.frameBudget ≤ c + cycleSum P n s)
      ∨ (n < m ∧ c + cycleSum P n s < P.frameBudget ∧ u.AtIllegal)) := by
  induction m generalizing c s with
  | zero => exact ⟨0, s, .refl P c s, .inl ⟨Nat.le_refl 0, hm⟩⟩
  | succ m ih =>
    by_cases hc : c < P.frameBudget
    case neg => exact ⟨0, s, .refl P c s, .inl ⟨Nat.zero_le _, Nat.le_of_not_lt hc⟩⟩
    case pos =>
      by_cases hill : s.AtIllegal
      · exact ⟨0, s, .refl P c s, .inr ⟨m.succ_pos, hc, hill⟩⟩
      · obtain ⟨t, hst, hpos⟩ := exists_step_of_not_atIllegal hP hf hill
        obtain ⟨hft, -⟩ := step_keeps_fault_driver hst
        obtain ⟨n, u, hrun, hend⟩ := ih (c := c + stepCycles P s) (hft.trans hf) (by omega)
        refine ⟨n + 1, u, (runsBelowBudget_succ_iff hst).2 ⟨hc, hrun⟩, ?_⟩
        rw [cycleSum_succ n hst, ← Nat.add_assoc]
        exact hend.imp (And.imp_left Nat.succ_le_succ) (And.imp_left Nat.succ_lt_succ)

/-! ### The loop along a run -/

/-- The step does not see the driver's fields, and leaves them to the loop (R41). -/
theorem step_withDriver_of_next {s t : State} (h : step s = .next t) (d : DriverState) :
    step (s.withDriver d) = .next (t.withDriver d) := by
  rw [stepIgnoresDriverFields, h, mapNext]

/-- The loop goes through the steps of a run below the budget, and adds their counts to `cycle_acc`. -/
theorem RunsBelowBudget.frameLoop {P : Config.Params} {c n : Nat} {s u : State} (h : RunsBelowBudget P c n s u) (m : Nat)
    (v : FrameVector) :
    frameLoop P (n + m) (s.withDriver ⟨c, v⟩) = frameLoop P m (u.withDriver ⟨c + cycleSum P n s, v⟩) := by
  induction n generalizing c s with
  | zero =>
    cases h.run
    rw [Nat.zero_add]
    rfl
  | succ n ih =>
    obtain ⟨t, hst, -⟩ := exists_step_of_run_succ core h.run
    obtain ⟨hc, htu⟩ := (runsBelowBudget_succ_iff hst).1 h
    rw [Nat.succ_add, frameLoop_of_next (n + m) hc (step_withDriver_of_next hst _), cycleSum_succ n hst, ← Nat.add_assoc]
    exact ih htu

/-- Below the budget, the loop ends at an illegal opcode, with the fault on record and nothing else changed (R801, D34). -/
theorem frameLoop_of_atIllegal {P : Config.Params} {s : State} (n : Nat) (hb : s.driver.cycleAcc < P.frameBudget)
    (hf : s.fault = none) (hill : s.AtIllegal) :
    frameLoop P (n + 1) s = .faulted { s with fault := some ⟨s.read s.pc, s.pc⟩ }
      (.unimplementedInstruction (s.read s.pc) s.pc) := by
  obtain ⟨hh, hop⟩ := hill
  exact frameLoop_of_fault n hb (step_of_illegal_opcode hf hh hop)

/-! ### From the loop to the end of the call (R818) -/

/-- The driver's fields of the state a call of `run_frame` begins its loop in. -/
def DriverState.start (d : DriverState) : DriverState := ⟨0, d.nextVector⟩

theorem State.withDriver_start (s : State) :
    s.withDriver s.driver.start = { s with driver := { s.driver with cycleAcc := 0 } } := rfl

theorem runFrame_of_loop_done {P : Config.Params} {s t : State}
    (h : frameLoop P P.frameBudget (s.withDriver s.driver.start) = .done t) : runFrame P s = frameEnd t := by
  rw [runFrame, ← State.withDriver_start, h]

theorem runFrame_of_loop_faulted {P : Config.Params} {s t : State} {r : Fault}
    (h : frameLoop P P.frameBudget (s.withDriver s.driver.start) = .faulted t r) : runFrame P s = .faulted t r := by
  rw [runFrame, ← State.withDriver_start, h]

/-- A run that reaches the budget is followed by the interrupt step of the driver. -/
theorem RunsBelowBudget.runFrame_of_reached {P : Config.Params} {n : Nat} {s u : State} (h : RunsBelowBudget P 0 n s u)
    (hn : n ≤ P.frameBudget) (hsum : P.frameBudget ≤ cycleSum P n s) :
    runFrame P s = frameEnd (u.withDriver ⟨cycleSum P n s, s.driver.nextVector⟩) := by
  apply runFrame_of_loop_done
  obtain ⟨m, hm⟩ := Nat.exists_eq_add_of_le hn
  have hloop := h.frameLoop m s.driver.nextVector
  rw [← hm, Nat.zero_add] at hloop
  exact hloop.trans (frameLoop_of_budget m hsum)

/-- A run that stands at an illegal opcode below the budget ends the call there. -/
theorem RunsBelowBudget.runFrame_of_atIllegal {P : Config.Params} {n : Nat} {s u : State} (h : RunsBelowBudget P 0 n s u)
    (hn : n < P.frameBudget) (hsum : cycleSum P n s < P.frameBudget) (hf : u.fault = none) (hill : u.AtIllegal) :
    runFrame P s = .faulted
      ({ u with fault := some ⟨u.read u.pc, u.pc⟩ }.withDriver ⟨cycleSum P n s, s.driver.nextVector⟩)
      (.unimplementedInstruction (u.read u.pc) u.pc) := by
  apply runFrame_of_loop_faulted
  obtain ⟨m, hm⟩ := Nat.exists_eq_add_of_lt hn
  have hloop := h.frameLoop (m + 1) s.driver.nextVector
  rw [← Nat.add_assoc, ← hm, Nat.zero_add] at hloop
  exact hloop.trans (frameLoop_of_atIllegal (s := u.withDriver ⟨cycleSum P n s, s.driver.nextVector⟩) m hsum hf hill)

theorem FrameVector.number_le_seven (v : FrameVector) : v.number ≤ 7 := by cases v <;> decide

theorem frameEnd_of_ie {u : State} (hf : u.fault = none) (hi : u.ie = true) (c : Nat) (v : FrameVector) :
    frameEnd (u.withDriver ⟨c, v⟩) = .done ((u.interruptEntry v.number).withDriver ⟨c, v.toggle⟩) := by
  rcases frameEnd_cases (s := u.withDriver ⟨c, v⟩) hf with ⟨-, h⟩ | ⟨hi', -⟩
  · exact h
  · cases hi.symm.trans hi'

theorem frameEnd_of_not_ie {u : State} (hi : u.ie = false) : frameEnd u = .done u := if_neg (ne_true_of_eq_false hi)

@[simp] theorem State.withDriver_withDriver (s : State) (d e : DriverState) : (s.withDriver d).withDriver e = s.withDriver e := rfl

theorem State.withDriver_eq_self {s : State} {d : DriverState} (h : s.driver = d) : s.withDriver d = s := h ▸ rfl

/-! ### The obligation -/

/-- Settles O59: the run up to the budget exists because the counts are positive; the loop of the call goes along it, and ends with
the interrupt step or with the fault. -/
theorem runFrameEnds : Obligations.RunFrameEnds := by
  unfold Obligations.RunFrameEnds
  intro P s hcycles hidle hf
  obtain ⟨n, u, hrun, hend⟩ := exists_runsBelowBudget (c := 0) ⟨hcycles, hidle⟩ hf (Nat.le_of_eq (Nat.zero_add _).symm)
  obtain ⟨hfault, hdriver⟩ := run_keeps_fault_driver hrun.run
  have hfu : u.fault = none := hfault.trans hf
  have hbelow := hrun.below
  simp only [Nat.zero_add] at hend hbelow
  refine ⟨n, u, hrun.run, hbelow, ?_⟩
  rcases hend with ⟨hn, hsum⟩ | ⟨hn, hsum, hill⟩
  case inl =>
    refine .inl ⟨hsum, ?_⟩
    rw [hrun.runFrame_of_reached hn hsum]
    cases hi : u.ie with
    | true =>
      obtain ⟨hpc, -, htop, -⟩ := interruptEntry_spec u s.driver.nextVector.number
      have hraise := raise_delivered hfu hi s.driver.nextVector.number_le_seven
      refine ⟨_, frameEnd_of_ie hfu hi _ _, hfu, rfl, fun _ => ⟨rfl, ?_, hpc, htop, rfl⟩, nofun⟩
      rw [State.withDriver_withDriver, State.withDriver_eq_self (s := u.interruptEntry _) hdriver]
      exact hraise
    | false =>
      refine ⟨_, frameEnd_of_not_ie hi, hfu, rfl, nofun, fun _ => ⟨rfl, ?_⟩⟩
      rw [State.withDriver_withDriver, State.withDriver_eq_self hdriver]
  case inr =>
    obtain ⟨hh, hop⟩ := hill
    refine .inr ⟨hsum, hh, hop, _, hrun.runFrame_of_atIllegal hn hsum hfu ⟨hh, hop⟩, ?_, rfl⟩
    rw [State.withDriver_withDriver]
    exact State.withDriver_eq_self hdriver

end Sys2Proof.Machine
end

section
/-! SUPPORT. What a loaded image leaves (70_reset_and_hazards.md R902) and the invariant at reset (R900), and the obligations that
state them. -/

namespace Sys2Proof.Machine

/-! ### Consecutive stores -/

/-- Consecutive stores change the memory and nothing else. -/
theorem State.writeBytes_frame (s : State) (a : Word) (vs : List Byte) : { s.writeBytes a vs with mem := s.mem } = s := by
  induction vs generalizing s a with
  | nil => rfl
  | cons v vs ih => exact congrArg (fun t : State => { t with mem := s.mem }) (ih (s.write a v) (a + 1))

theorem word_add_ofNat_succ (a : Word) (k : Nat) : a + BitVec.ofNat 16 (k + 1) = a + 1 + BitVec.ofNat 16 k := by
  rw [Nat.add_comm, BitVec.ofNat_add, ← BitVec.add_assoc]
  rfl

theorem word_ne_add_ofNat (a : Word) {k : Nat} (hpos : 0 < k) (hk : k < 65536) : a ≠ a + BitVec.ofNat 16 k := by
  bv_omega

/-- A byte at none of the addresses stored reads as before. -/
theorem State.read_writeBytes_other (s : State) {a b : Word} (vs : List Byte)
    (h : ∀ k < vs.length, b ≠ a + BitVec.ofNat 16 k) : (s.writeBytes a vs).read b = s.read b := by
  induction vs generalizing s a with
  | nil => rfl
  | cons v vs ih =>
    have hhead : b ≠ a := by simpa using h 0 (Nat.zero_lt_succ _)
    have htail : ∀ k < vs.length, b ≠ a + 1 + BitVec.ofNat 16 k := fun k hk =>
      word_add_ofNat_succ a k ▸ h (k + 1) (Nat.succ_lt_succ hk)
    exact (ih (s.write a v) htail).trans (s.read_write_other v hhead)

/-- Bytes no more than the addresses there are do not overwrite one another, so each reads back. -/
theorem State.read_writeBytes_offset (s : State) (a : Word) {vs : List Byte} (hlen : vs.length ≤ 65536) {k : Nat}
    (hk : k < vs.length) : (s.writeBytes a vs).read (a + BitVec.ofNat 16 k) = vs[k] := by
  induction vs generalizing s a k with
  | nil => cases hk
  | cons v vs ih =>
    rw [List.length_cons] at hlen hk
    cases k with
    | zero =>
      have hlater : ∀ k < vs.length, a ≠ a + 1 + BitVec.ofNat 16 k := fun k hk =>
        word_add_ofNat_succ a k ▸ word_ne_add_ofNat a (Nat.succ_pos k) (by omega)
      rw [BitVec.add_zero]
      exact (State.read_writeBytes_other _ vs hlater).trans (s.read_write_same a v)
    | succ k =>
      rw [word_add_ofNat_succ]
      exact ih (s.write a v) (a + 1) (by omega) (by omega)

/-! ### The loader -/

/-- An image that fits is stored byte for byte from its offset on. -/
theorem State.loadImage_of_fits (s : State) {base : Nat} {image : List Byte} (h : base + image.length ≤ 65536) :
    s.loadImage base image = .next (s.writeBytes (BitVec.ofNat 16 base) image) := if_neg (Nat.not_lt.2 h)

/-- An address below or past an image that fits is none of the image's: there the offsets do not wrap. -/
theorem word_ne_of_outside {base len k : Nat} {a : Word} (hfits : base + len ≤ 65536)
    (ha : a.toNat < base ∨ base + len ≤ a.toNat) (hk : k < len) : a ≠ BitVec.ofNat 16 base + BitVec.ofNat 16 k := by
  rw [← BitVec.ofNat_add]
  intro heq
  have hn : a.toNat = base + k := by rw [heq, BitVec.toNat_ofNat, Nat.mod_eq_of_lt (by omega)]
  omega

/-- Settles O60: loading is consecutive stores, which reach each address of the image once and no other, and only memory. -/
theorem loaderStoresTheImage : Obligations.LoaderStoresTheImage := by
  unfold Obligations.LoaderStoresTheImage
  intro s base image hfits
  refine ⟨_, s.loadImage_of_fits hfits, ?inside, ?outside, s.writeBytes_frame _ image⟩
  case inside =>
    intro k hk
    rw [BitVec.ofNat_add]
    exact s.read_writeBytes_offset _ (by omega) hk
  case outside =>
    exact fun a ha => s.read_writeBytes_other image fun k hk => word_ne_of_outside hfits ha hk

/-! ### Reset -/

/-- A launch records no fault, so it meets the invariant when its memory is canonical. -/
theorem State.Inv.launch (first : FrameVector) {m : Memory} (hm : m.wf = true) : (State.launch first m).Inv :=
  ⟨hm, State.launch_fault first m⟩

/-- Settles O11: reset is a launch with a memory that lists nothing. -/
theorem resetMeetsInvariant : Obligations.ResetMeetsInvariant := by
  unfold Obligations.ResetMeetsInvariant
  rw [State.reset_eq_launch]
  exact State.Inv.launch .one Memory.wf_nil

end Sys2Proof.Machine
end
